-- ==== Sys2Proof/Word.lean ====
section
/-! DEFINITION. The bit-vector types the spec uses: bytes, nibbles, descriptors, the 16-bit rectangle registers
(spec 00_scope.md R10, 10_state.md R26 and R27). -/

namespace Sys2Proof

/-- A byte (R10). -/
abbrev Byte := BitVec 8

/-- A nibble, the 4-bit gray level `NIB` of R10 and R100. -/
abbrev Nib := BitVec 4

/-- A descriptor `DESC[127:0]` (30_encoding.md R60). -/
abbrev Desc := BitVec 128

/-- A 16-bit two's-complement rectangle register (10_state.md R27) or descriptor field (30_encoding.md R61). -/
abbrev Half := BitVec 16

/-- A 16-bit RGB565 source pixel (20_memory.md R44). -/
abbrev Pixel16 := BitVec 16

end Sys2Proof
end

