-- ==== Sys2Proof/Syntax.lean ====
section
/-! DEFINITION. The seven operations with their assembled operands (spec 30_encoding.md R62, R63), the pseudo-operations
(R68) and the lines of the assembler (R67). -/

namespace Sys2Proof

/-- The two source pixel encodings: `0 = G8`, `1 = RGB565` (10_state.md R29, 30_encoding.md R61). -/
inductive Fmt where
  | g8
  | rgb565
deriving DecidableEq, Repr

/-- A rectangle `(X1, Y1, X2, Y2)`, both corners inclusive, as the integers R62 reads them to be. -/
structure Rect where
  x1 : Int
  y1 : Int
  x2 : Int
  y2 : Int
deriving DecidableEq, Repr

/-- One constructor per row of spec/opcode_table.json (R63). -/
inductive Instr where
  /-- `0x01` SETWIN (40_addressing.md R88). -/
  | setwin (r : Rect)
  /-- `0x02` FILL (41_pixel_pipeline.md R109). -/
  | fill (v : Nib)
  /-- `0x03` TPAT (41_pixel_pipeline.md R110). -/
  | tpat
  /-- `0x04` FLUSH8 (41_pixel_pipeline.md R111); `ctx` is the bit `CTX`. -/
  | flush8 (ctx : Bool) (r : Rect) (base : Nat)
  /-- `0x05` FLUSH16 (41_pixel_pipeline.md R112). -/
  | flush16 (ctx : Bool) (r : Rect) (base : Nat)
  /-- `0x06` ROUND (42_integration.md R130). -/
  | round (r : Rect)
  /-- `0x07` SETUP (42_integration.md R132). -/
  | setup (lines : Nat) (fmt : Fmt)
deriving DecidableEq, Repr

/-- Pseudo-operation BLACK = `FILL 0` (R68). -/
def Instr.black : Instr := .fill 0#4

/-- Pseudo-operation WHITE = `FILL 15` (R68, decision D31). -/
def Instr.white : Instr := .fill 15#4

/-- A line of the textual form of R67, after its words and numbers are read; `ctx` is `none` where it is omitted. -/
inductive AsmLine where
  | setwin (x1 y1 x2 y2 : Int)
  | fill (v : Nat)
  | black
  | white
  | tpat
  | flush8 (x1 y1 x2 y2 : Int) (base : Nat) (ctx : Option Nat)
  | flush16 (x1 y1 x2 y2 : Int) (base : Nat) (ctx : Option Nat)
  | round (x1 y1 x2 y2 : Int)
  | setup (lines : Nat) (fmt : Fmt)
deriving DecidableEq, Repr

end Sys2Proof
end

