-- ==== Sys2Proof/WellFormed.lean ====
section
/-! DEFINITION. Which instruction terms a descriptor can express: every operand inside its field (spec 30_encoding.md
R61, R62, R67). -/

namespace Sys2Proof

/-- A coordinate fits a 16-bit two's-complement field (R62: `-32768 .. 32767`). -/
def coordFits (v : Int) : Bool := decide (-32768 ≤ v) && decide (v ≤ 32767)

/-- All four coordinates fit. -/
def Rect.wellFormed (r : Rect) : Bool := coordFits r.x1 && coordFits r.y1 && coordFits r.x2 && coordFits r.y2

/-- `BASE` fits its 32-bit field (R62: `0 .. 2^32 - 1`). -/
def baseFits (b : Nat) : Bool := decide (b < 2 ^ 32)

/-- `LINES` fits `ARG[4:0]` (R61, R67: `0 ≤ lines ≤ 31`). -/
def linesFit (n : Nat) : Bool := decide (n ≤ 31)

/-- The operands of an instruction fit the fields of its descriptor. -/
def Instr.wellFormed : Instr → Bool
  | .setwin r           => r.wellFormed
  | .fill _             => true
  | .tpat               => true
  | .flush8 _ r base    => r.wellFormed && baseFits base
  | .flush16 _ r base   => r.wellFormed && baseFits base
  | .round r            => r.wellFormed
  | .setup lines _      => linesFit lines

end Sys2Proof
end

