-- ==== Sys2Proof/Decode.lean ====
section
/-! DEFINITION. The descriptor's fields, the decoder (total, rejecting by name), the encoder, the match and mask table
and the assembler (spec 30_encoding.md R60 to R68). -/

namespace Sys2Proof

/-- `OPC = DESC[7:0]` (R61). -/
def Desc.opc (d : Desc) : Byte := d.extractLsb' 0 8
/-- `ARG = DESC[15:8]` (R61). -/
def Desc.arg (d : Desc) : Byte := d.extractLsb' 8 8
/-- `X1 = DESC[31:16]` (R61). -/
def Desc.x1 (d : Desc) : Half := d.extractLsb' 16 16
/-- `Y1 = DESC[47:32]` (R61). -/
def Desc.y1 (d : Desc) : Half := d.extractLsb' 32 16
/-- `X2 = DESC[63:48]` (R61). -/
def Desc.x2 (d : Desc) : Half := d.extractLsb' 48 16
/-- `Y2 = DESC[79:64]` (R61). -/
def Desc.y2 (d : Desc) : Half := d.extractLsb' 64 16
/-- `BASE = DESC[111:80]` (R61). -/
def Desc.base (d : Desc) : BitVec 32 := d.extractLsb' 80 32
/-- `RSV = DESC[127:112]` (R61). -/
def Desc.rsv (d : Desc) : Half := d.extractLsb' 112 16

/-- Operand assembly of the rectangle: each field read as two's complement (R62). -/
def Desc.rect (d : Desc) : Rect :=
  { x1 := d.x1.toInt, y1 := d.y1.toInt, x2 := d.x2.toInt, y2 := d.y2.toInt }

/-- `FMT = ARG[5]`: 0 = G8, 1 = RGB565 (R61). -/
def Fmt.ofBit (b : Bool) : Fmt := if b then .rgb565 else .g8

/-- The bit `FMT` that a format is written as (R61, R67). -/
def Fmt.toBit : Fmt → Bool
  | .g8 => false
  | .rgb565 => true

/-- Why a descriptor is illegal (R65); the first of these that holds, in this order. -/
inductive Reject where
  /-- `OPC` is `0x00` or `0x08` to `0xFF`. -/
  | reservedOpcode (opc : Byte)
  /-- `RSV` is not zero. -/
  | rsvNotZero
  /-- a must-be-zero part of `ARG` is not zero. -/
  | argNotZero
  /-- a coordinate field the operation does not use is not zero. -/
  | rectNotZero
  /-- `BASE` is not zero and the operation does not use it. -/
  | baseNotZero
deriving DecidableEq, Repr

/-- Accept `i` when the must-be-zero parts of the descriptor are zero (R64). -/
def acceptWhen (rsvOk argOk rectOk baseOk : Bool) (i : Instr) : Except Reject Instr :=
  if rsvOk = false then .error .rsvNotZero
  else if argOk = false then .error .argNotZero
  else if rectOk = false then .error .rectNotZero
  else if baseOk = false then .error .baseNotZero
  else .ok i

/-- `RSV = 0`. -/
def Desc.rsvZero (d : Desc) : Bool := decide (d.rsv = 0#16)
/-- The four coordinate fields are zero. -/
def Desc.rectZero (d : Desc) : Bool :=
  decide (d.x1 = 0#16) && decide (d.y1 = 0#16) && decide (d.x2 = 0#16) && decide (d.y2 = 0#16)
/-- `BASE = 0`. -/
def Desc.baseZero (d : Desc) : Bool := decide (d.base = 0#32)

/-- The decoder: the operation a descriptor requests, or why it is illegal (R63, R64, R65). -/
def decode (d : Desc) : Except Reject Instr :=
  if d.opc = 0x01#8 then
    acceptWhen d.rsvZero (decide (d.arg = 0#8)) true d.baseZero (.setwin d.rect)
  else if d.opc = 0x02#8 then
    acceptWhen d.rsvZero (decide (d.arg.extractLsb' 4 4 = 0#4)) d.rectZero d.baseZero (.fill (d.arg.extractLsb' 0 4))
  else if d.opc = 0x03#8 then
    acceptWhen d.rsvZero (decide (d.arg = 0#8)) d.rectZero d.baseZero .tpat
  else if d.opc = 0x04#8 then
    acceptWhen d.rsvZero (decide (d.arg.extractLsb' 1 7 = 0#7)) true true (.flush8 (d.arg.getLsbD 0) d.rect d.base.toNat)
  else if d.opc = 0x05#8 then
    acceptWhen d.rsvZero (decide (d.arg.extractLsb' 1 7 = 0#7)) true true (.flush16 (d.arg.getLsbD 0) d.rect d.base.toNat)
  else if d.opc = 0x06#8 then
    acceptWhen d.rsvZero (decide (d.arg = 0#8)) true d.baseZero (.round d.rect)
  else if d.opc = 0x07#8 then
    acceptWhen d.rsvZero (decide (d.arg.extractLsb' 6 2 = 0#2)) d.rectZero d.baseZero
      (.setup (d.arg.extractLsb' 0 5).toNat (Fmt.ofBit (d.arg.getLsbD 5)))
  else .error (.reservedOpcode d.opc)

/-- A descriptor laid out from its fields, `RSV` in the high bits (R61). -/
def Desc.build (opc arg : Byte) (x1 y1 x2 y2 : Half) (base : BitVec 32) : Desc :=
  (0#16 ++ base ++ y2 ++ x2 ++ y1 ++ x1 ++ arg ++ opc).cast (by decide)

/-- A descriptor with a rectangle: each coordinate in its 16-bit two's-complement field (R61, R62). -/
def Desc.ofRect (opc arg : Byte) (r : Rect) (base : BitVec 32) : Desc :=
  Desc.build opc arg (BitVec.ofInt 16 r.x1) (BitVec.ofInt 16 r.y1) (BitVec.ofInt 16 r.x2) (BitVec.ofInt 16 r.y2) base

/-- `ARG` of a flush: `CTX` in bit 0, the rest zero (R61). -/
def Desc.ctxArg (ctx : Bool) : Byte := 0#7 ++ BitVec.ofBool ctx

/-- `ARG` of SETUP: `LINES + 32 * FMT` (R61, R67). -/
def Desc.setupArg (lines : Nat) (fmt : Fmt) : Byte := 0#2 ++ BitVec.ofBool fmt.toBit ++ BitVec.ofNat 5 lines

/-- The operation codes of R63. -/
def Instr.opcode : Instr → Byte
  | .setwin _      => 0x01#8
  | .fill _        => 0x02#8
  | .tpat          => 0x03#8
  | .flush8 _ _ _  => 0x04#8
  | .flush16 _ _ _ => 0x05#8
  | .round _       => 0x06#8
  | .setup _ _     => 0x07#8

/-- The encoder: the descriptor of a well-formed instruction (R61, R63). -/
def encode (i : Instr) : Desc :=
  match i with
  | .setwin r           => Desc.ofRect i.opcode 0#8 r 0#32
  | .fill v             => Desc.build i.opcode (0#4 ++ v) 0#16 0#16 0#16 0#16 0#32
  | .tpat               => Desc.build i.opcode 0#8 0#16 0#16 0#16 0#16 0#32
  | .flush8 ctx r base  => Desc.ofRect i.opcode (Desc.ctxArg ctx) r (BitVec.ofNat 32 base)
  | .flush16 ctx r base => Desc.ofRect i.opcode (Desc.ctxArg ctx) r (BitVec.ofNat 32 base)
  | .round r            => Desc.ofRect i.opcode 0#8 r 0#32
  | .setup lines fmt    => Desc.build i.opcode (Desc.setupArg lines fmt) 0#16 0#16 0#16 0#16 0#32

/-- A row of the match and mask table of R64. -/
structure DescRow where
  code : Desc
  mask : Desc
deriving DecidableEq, Repr

/-- A descriptor has the row's fixed bits: `DESC & mask = match` (R64). -/
def DescRow.hits (row : DescRow) (d : Desc) : Bool := decide (d &&& row.mask = row.code)

/-- The row of an operation, letter for letter from the table of R64. -/
def Instr.row : Instr → DescRow
  | .setwin _      => { code := 0x00000000000000000000000000000001#128, mask := 0xFFFFFFFFFFFF0000000000000000FFFF#128 }
  | .fill _        => { code := 0x00000000000000000000000000000002#128, mask := 0xFFFFFFFFFFFFFFFFFFFFFFFFFFFFF0FF#128 }
  | .tpat          => { code := 0x00000000000000000000000000000003#128, mask := 0xFFFFFFFFFFFFFFFFFFFFFFFFFFFFFFFF#128 }
  | .flush8 _ _ _  => { code := 0x00000000000000000000000000000004#128, mask := 0xFFFF000000000000000000000000FEFF#128 }
  | .flush16 _ _ _ => { code := 0x00000000000000000000000000000005#128, mask := 0xFFFF000000000000000000000000FEFF#128 }
  | .round _       => { code := 0x00000000000000000000000000000006#128, mask := 0xFFFFFFFFFFFF0000000000000000FFFF#128 }
  | .setup _ _     => { code := 0x00000000000000000000000000000007#128, mask := 0xFFFFFFFFFFFFFFFFFFFFFFFFFFFFC0FF#128 }

/-- The seven rows of R64, in its order. -/
def descTable : List DescRow :=
  let r : Rect := { x1 := 0, y1 := 0, x2 := 0, y2 := 0 }
  [Instr.row (.setwin r), Instr.row (.fill 0#4), Instr.row .tpat, Instr.row (.flush8 false r 0),
    Instr.row (.flush16 false r 0), Instr.row (.round r), Instr.row (.setup 0 .g8)]

/-- The instruction a line of R67 names; `ctx` defaults to 1, BLACK and WHITE expand (R68); the assembler refuses a
value its operand has no room for. -/
def AsmLine.instr? : AsmLine → Option Instr
  | .setwin x1 y1 x2 y2             => some (.setwin { x1 := x1, y1 := y1, x2 := x2, y2 := y2 })
  | .fill v                         => if v ≤ 15 then some (.fill (BitVec.ofNat 4 v)) else none
  | .black                          => some .black
  | .white                          => some .white
  | .tpat                           => some .tpat
  | .flush8 x1 y1 x2 y2 base ctx    =>
    if ctx.getD 1 ≤ 1 then some (.flush8 (ctx.getD 1 == 1) { x1 := x1, y1 := y1, x2 := x2, y2 := y2 } base) else none
  | .flush16 x1 y1 x2 y2 base ctx   =>
    if ctx.getD 1 ≤ 1 then some (.flush16 (ctx.getD 1 == 1) { x1 := x1, y1 := y1, x2 := x2, y2 := y2 } base) else none
  | .round x1 y1 x2 y2              => some (.round { x1 := x1, y1 := y1, x2 := x2, y2 := y2 })
  | .setup lines fmt                => some (.setup lines fmt)

/-- The descriptor of a line of R67, or none where the assembler refuses it. -/
def assemble (l : AsmLine) : Option Desc :=
  match l.instr? with
  | some i => if i.wellFormed then some (encode i) else none
  | none   => none

/-- The instruction the decoder reads from the `nbits` low bits of `w`, every bit above them zero (a descriptor is
delivered whole, R60: bit 0 of the table is `DESC[0]`). -/
def decodeTableWord (nbits w : Nat) : Option Instr :=
  match decode (BitVec.ofNat 128 (w % 2 ^ nbits)) with
  | .ok i    => some i
  | .error _ => none

end Sys2Proof
end

