-- ==== Sys2Proof/Config.lean ====
section
/-! DEFINITION. The configuration record CFG (spec 00_scope.md R7, R9), the uninterpreted test pattern, and the free
values of the hidden sequencer registers (10_state.md R31) and of reads of a register with no meaningful value (R22, R38). The constraints of R8 are `Config.Valid` in
Machine/Operands.lean. -/

namespace Sys2Proof

/-- `CFG` of R7: the open parameters, fixed when the block is instantiated. `TESTPAT` is `Config.testPat`. -/
structure Config where
  /-- `Q`, the column quantum: 2 or 4. -/
  q          : Nat
  /-- `COLOFF`, the fixed column offset: 0..255. -/
  colOff     : Nat
  /-- `OPC_SETCOL`. -/
  opcSetCol  : Byte
  /-- `OPC_SETROW`. -/
  opcSetRow  : Byte
  /-- `OPC_RAMWR`: none, or the RAM-write-enable command. -/
  opcRamWr   : Option Byte
  /-- `WR`, the luma weight of red. -/
  wr         : Nat
  /-- `WG`, the luma weight of green. -/
  wg         : Nat
  /-- `WB`, the luma weight of blue. -/
  wb         : Nat
  /-- `SRC16_BE`: false puts bits 7..0 of a pixel at the lower address. -/
  src16BE    : Bool
  /-- `STAGE_BYTES`, the size of SRC. -/
  stageBytes : Nat
deriving DecidableEq, Repr

/-- `TESTPAT` (R7, 41_pixel_pipeline.md R110): not given by any source, so uninterpreted; it depends on `(x, y)`
alone. The block applies it only to `0 ≤ x ≤ 255`, `0 ≤ y ≤ 63`. Free value, log 4. -/
opaque Config.testPat : Nat → Nat → Nib

/-- What `ROWCNT` holds between operations (10_state.md R31: unspecified). Free value, log 6. -/
opaque Config.freeRowCnt : Nat → BitVec 6

/-- What `COLCNT` holds between operations (10_state.md R31: unspecified). Free value, log 6. -/
opaque Config.freeColCnt : Nat → BitVec 8

/-- What `NIBHOLD` holds between operations (10_state.md R31: unspecified). Free value, log 6. -/
opaque Config.freeNibHold : Nat → Nib

/-- What a read of `RES` gets while BUSY = 1, when the value is not meaningful (10_state.md R22). Free value, log 8. -/
opaque Config.freeRes : Nat → Byte

/-- What a read of `STG_LINES` gets while BUSY = 1 (10_state.md R22). Free value, log 8. -/
opaque Config.freeStgLines : Nat → BitVec 5

/-- What a read of `STG_FMT` gets while BUSY = 1 (10_state.md R22). Free value, log 8. -/
opaque Config.freeStgFmt : Nat → Bool

/-- What a read of `RX1` gets while BUSY = 1 (10_state.md R22) or before the first ROUND (R38). Free value, log 8. -/
opaque Config.freeRx1 : Nat → Half

/-- What a read of `RY1` gets while BUSY = 1 (10_state.md R22) or before the first ROUND (R38). Free value, log 8. -/
opaque Config.freeRy1 : Nat → Half

/-- What a read of `RX2` gets while BUSY = 1 (10_state.md R22) or before the first ROUND (R38). Free value, log 8. -/
opaque Config.freeRx2 : Nat → Half

/-- What a read of `RY2` gets while BUSY = 1 (10_state.md R22) or before the first ROUND (R38). Free value, log 8. -/
opaque Config.freeRy2 : Nat → Half

/-- `CFG_REF` of R9. PRESUMED (log 2): the command bytes and the weights are an example instantiation, marked by the
spec as general knowledge (93_implementation_defined.md U9, U10). -/
def Config.ref : Config where
  q          := 4
  colOff     := 0x1C
  opcSetCol  := 0x15#8
  opcSetRow  := 0x75#8
  opcRamWr   := some 0x5C#8
  wr         := 77
  wg         := 150
  wb         := 29
  src16BE    := false
  stageBytes := 8192

/-- `CFG_Q2` of R9: as `CFG_REF` but `Q = 2`, `COLOFF = 0x00`. -/
def Config.refQ2 : Config := { Config.ref with q := 2, colOff := 0 }

end Sys2Proof
end

