-- ==== Sys2Proof/Machine/State.lean ====
section
/-! DEFINITION. The state of the block PXP as plain data, with the events it emits, the host's moves, and the reasons a
step stops (spec 10_state.md R20 to R39, 00_scope.md R13, 70_reset_and_hazards.md R173). -/

namespace Sys2Proof.Machine

/-- An output event (00_scope.md R13, 10_state.md R24, R25). -/
inductive Event where
  /-- `Cmd(op, [p1, .., pn])`: one `writeCommand(opcode, paramBytes)` transaction. -/
  | cmd (op : Byte) (params : List Byte)
  /-- `Data([b1, .., bn])`: one `writeData(bytes)` transaction. -/
  | data (bytes : List Byte)
  /-- `Ack`: one "flush ready" acknowledgment. -/
  | ack
deriving DecidableEq, Repr

/-- SRC as (address, byte) pairs, addresses strictly rising; what an address that is not listed holds is
`Memory.unlisted` (20_memory.md R41; log 11). -/
abbrev Memory := List Host.Cell

/-- The host's moves, one constructor per row of the table of 70_reset_and_hazards.md R173 (its row for RES, STG_LINES
and STG_FMT is three moves). -/
inductive HostMove where
  /-- write SRC byte `a` with `v`. -/
  | writeSrc (a : Nat) (v : Byte)
  /-- issue descriptor `d`. -/
  | issue (d : Desc)
  /-- read BUSY. -/
  | readBusy
  /-- read RES. -/
  | readRes
  /-- read STG_LINES. -/
  | readStgLines
  /-- read STG_FMT. -/
  | readStgFmt
  /-- read RX1, RY1, RX2, RY2. -/
  | readRect
  /-- assert `rst`. -/
  | rst
deriving DecidableEq, Repr

/-- What the result port shows (10_state.md R22). -/
inductive PortValue where
  | busy (b : Bool)
  | res (v : Byte)
  | stgLines (v : BitVec 5)
  | stgFmt (f : Fmt)
  | rect (rx1 ry1 rx2 ry2 : Half)
deriving DecidableEq, Repr

/-- What the host gets back for a read (10_state.md R22, 70_reset_and_hazards.md R173). -/
inductive Reply where
  /-- the read is available (R173): the value. -/
  | value (v : PortValue)
  /-- the read is not available (R173) and is refused, with no value for the host (10_state.md R38,
  93_implementation_defined.md U8); `shown` is what the port, which can be read at any time (R22), shows meanwhile: a free
  value (log 8). -/
  | unavailable (shown : PortValue)
deriving DecidableEq, Repr

/-- The state: the configuration (an argument of the model that no step writes, 10_state.md R33; log 1), the block's
registers, SRC, the trace, and the host's side (logs 7 and 8). -/
structure State where
  /-- `CFG` (00_scope.md R7). -/
  cfg       : Config
  /-- `BUSY` (10_state.md R30). -/
  busy      : Bool
  /-- `DL`, the descriptor latch (10_state.md R26). -/
  dl        : Desc
  /-- `RES`, the result code (10_state.md R28). -/
  res       : Byte
  /-- `RX1` (10_state.md R27). -/
  rx1       : Half
  /-- `RY1` (10_state.md R27). -/
  ry1       : Half
  /-- `RX2` (10_state.md R27). -/
  rx2       : Half
  /-- `RY2` (10_state.md R27). -/
  ry2       : Half
  /-- a ROUND has completed since reset (10_state.md R38, 70_reset_and_hazards.md R173; log 20). -/
  roundDone : Bool
  /-- `STG_LINES` (10_state.md R29). -/
  stgLines  : BitVec 5
  /-- `STG_FMT` (10_state.md R29). -/
  stgFmt    : Fmt
  /-- `ROWCNT` (10_state.md R31). -/
  rowCnt    : BitVec 6
  /-- `COLCNT` (10_state.md R31). -/
  colCnt    : BitVec 8
  /-- `NIBHOLD` (10_state.md R31). -/
  nibHold   : Nib
  /-- SRC, the staging buffer (20_memory.md R41). -/
  src       : Memory
  /-- `T`, every event since reset, oldest first (00_scope.md R13). -/
  trace     : List Event
  /-- the host's moves still to come, the next one first (log 7). -/
  host      : List HostMove
  /-- what the host's reads were answered, oldest first (log 8). -/
  replies   : List Reply
  /-- the model's own counter, which supplies free values (logs 6 and 8). -/
  freeCtr   : Nat
deriving DecidableEq, Repr

/-- Why a run is faulted (60_exceptions.md R146): the two causes of a SrcFault. -/
inductive Fault where
  /-- FLUSH8 and FLUSH16: the sampled pixel at `addr` has a byte outside `0 .. STAGE_BYTES - 1`. The spec tells a model
  to fault. Safe. -/
  | srcUnmapped (addr : Nat)
  /-- FLUSH8 and FLUSH16: the sampled byte at `addr` was never written. The spec tells a model to fault. Safe. -/
  | srcUnwritten (addr : Nat)
deriving DecidableEq, Repr

/-- Why a step has no meaning. -/
inductive Refusal where
  /-- exec's arms only: an instruction without a meaning yet. Safe. -/
  | notModelled (mnemonic : String)
  /-- step: `CFG` violates 00_scope.md R8 ("A model refuses a CFG that violates any of these"). Safe. -/
  | invalidConfig
  /-- step, host write: the address is not in `0 .. STAGE_BYTES - 1` (70_reset_and_hazards.md R173). Safe. -/
  | srcWriteUnmapped (a : Nat)
  /-- step, host write while BUSY = 1 that 70_reset_and_hazards.md R165 and R173 forbid. Safe. -/
  | srcWriteRace (a : Nat)
  /-- step, `rst` while BUSY = 1 (70_reset_and_hazards.md R161). Safe. -/
  | resetWhileBusy
deriving DecidableEq, Repr

/-- The state right after reset, for a configuration (10_state.md R38). RX1..RY2, DL and the sequencer registers are
unspecified there; zero is a DESIGN CHOICE (log 5). -/
def State.resetWith (cfg : Config) : State where
  cfg       := cfg
  busy      := false
  dl        := 0#128
  res       := 0x00#8
  rx1       := 0#16
  ry1       := 0#16
  rx2       := 0#16
  ry2       := 0#16
  roundDone := false
  stgLines  := 0#5
  stgFmt    := .g8
  rowCnt    := 0#6
  colCnt    := 0#8
  nibHold   := 0#4
  src       := []
  trace     := []
  host      := []
  replies   := []
  freeCtr   := 0

/-- The state right after reset, with the spec's reference configuration (00_scope.md R9; log 2). -/
def State.reset : State := State.resetWith Config.ref

end Sys2Proof.Machine
end

