-- ==== Sys2Proof/Machine/Flags.lean ====
section
/-! DEFINITION. The block has no flags (spec 10_state.md R32); the only status an operation leaves is `RES` (R28) and
`BUSY` (R30). The result codes, and the completion of an operation. -/

namespace Sys2Proof.Machine

/-- `RES = 0x00`: OK (10_state.md R28). -/
def resOk : Byte := 0x00#8
/-- `RES = 0x01`: FAIL, SETUP refused (10_state.md R28). -/
def resFail : Byte := 0x01#8
/-- `RES = 0x80`: ILLEGAL (10_state.md R28). -/
def resIllegal : Byte := 0x80#8

/-- The end of every operation: `RES <- code`, `BUSY <- 0` (10_state.md R28, R30, R34). The sequencer registers hold no
specified value between operations (R31): each takes a free value (log 6). -/
def complete (code : Byte) (s : State) : State :=
  { s with res := code, busy := false, rowCnt := Config.freeRowCnt s.freeCtr, colCnt := Config.freeColCnt s.freeCtr,
           nibHold := Config.freeNibHold s.freeCtr, freeCtr := s.freeCtr + 1 }

end Sys2Proof.Machine
end

