-- ==== Sys2Proof/Machine/Operands.lean ====
section
/-! DEFINITION. The panel's constants, the configuration's constraints, the geometry functions of the row addresser and
the column-quantum aligner, and the address of a source pixel (spec 00_scope.md R6, R8; 40_addressing.md R80 to R84;
41_pixel_pipeline.md R107; 20_memory.md R47). Everything is in unbounded integers (00_scope.md R11). -/

namespace Sys2Proof

namespace Machine

/-- `W`, the panel width in pixels (R6). -/
def panelW : Nat := 256
/-- `H`, the panel height in pixels (R6). -/
def panelH : Nat := 64
/-- `MAX_LINES` (R6). -/
def maxLines : Nat := 16

/-- `OPC_RAMWR`, when present, differs from the two address commands (R8). -/
def ramWrDiffers (cfg : Config) : Bool :=
  match cfg.opcRamWr with
  | none   => true
  | some c => decide (c ≠ cfg.opcSetCol) && decide (c ≠ cfg.opcSetRow)

end Machine

/-- The constraints every configuration satisfies (R8; they keep `COLOFF` in the `0..255` of R7). -/
abbrev Config.Valid (cfg : Config) : Prop :=
  (cfg.q = 2 ∨ cfg.q = 4) ∧ cfg.colOff + (Machine.panelW - 1) / cfg.q ≤ 255 ∧
    cfg.wr + cfg.wg + cfg.wb ≤ 256 ∧ cfg.opcSetCol ≠ cfg.opcSetRow ∧ Machine.ramWrDiffers cfg = true ∧
    1 ≤ cfg.stageBytes

namespace Machine

/-- `DEGENERATE(x1, y1, x2, y2)`: empty, or entirely outside the panel (R80). -/
abbrev Degenerate (r : Rect) : Prop :=
  r.x2 < r.x1 ∨ r.y2 < r.y1 ∨ r.x2 < 0 ∨ (panelW : Int) - 1 < r.x1 ∨ r.y2 < 0 ∨ (panelH : Int) - 1 < r.y1

/-- `clamp(v, 0, hi)` as a panel position (00_scope.md R11). -/
def clampTo (hi : Nat) (v : Int) : Nat := (max 0 (min v hi)).toNat

/-- `CLAMPX` (R81). -/
def clampX (v : Int) : Nat := clampTo (panelW - 1) v
/-- `CLAMPY` (R81). -/
def clampY (v : Int) : Nat := clampTo (panelH - 1) v

/-- `ALO(x)`, the largest multiple of `Q` not above `x` (R82). -/
def alo (cfg : Config) (x : Nat) : Nat := cfg.q * (x / cfg.q)
/-- `AHI(x)`, the last pixel of the quantum unit that holds `x` (R82). -/
def ahi (cfg : Config) (x : Nat) : Nat := cfg.q * (x / cfg.q) + cfg.q - 1

/-- `COLUNIT(x)`, the column address unit (R83). -/
def colUnit (cfg : Config) (x : Nat) : Nat := x / cfg.q + cfg.colOff
/-- `ROWUNIT(y)`, the row address unit (R84). -/
def rowUnit (y : Nat) : Nat := y

/-- `bpp`, the bytes of a source pixel (20_memory.md R47). -/
def bpp : Fmt → Nat
  | .g8     => 1
  | .rgb565 => 2

/-- `k(x, y)`, the index of a pixel in the requested rectangle, from its unclamped corner and stride (20_memory.md R47). -/
def pixelIndex (r : Rect) (x y : Nat) : Int := ((y : Int) - r.y1) * (r.x2 - r.x1 + 1) + ((x : Int) - r.x1)

/-- `BASE + bpp * k(x, y)`, where the pixel of panel position `(x, y)` lies in SRC (R107, 20_memory.md R47). -/
def pixelAddr (fmt : Fmt) (r : Rect) (base x y : Nat) : Nat := ((base : Int) + (bpp fmt : Int) * pixelIndex r x y).toNat

/-- The address is in the source region `BASE .. BASE + bpp * (X2 - X1 + 1) * (Y2 - Y1 + 1) - 1` of a flush
(70_reset_and_hazards.md R165). -/
abbrev InSourceRegion (fmt : Fmt) (r : Rect) (base a : Nat) : Prop :=
  base ≤ a ∧ (a : Int) < (base : Int) + (bpp fmt : Int) * (r.x2 - r.x1 + 1) * (r.y2 - r.y1 + 1)

end Machine

end Sys2Proof
end

