-- ==== Sys2Proof/Machine/Pixel.lean ====
section
/-! DEFINITION. The pixel format converter and the nibble packer, pure functions (spec 41_pixel_pipeline.md R100 to R106,
20_memory.md R44). -/

namespace Sys2Proof.Machine

/-- `CONV8(b)`: the high nibble (R101). -/
def conv8 (b : Byte) : Nib := b.extractLsb' 4 4

/-- `EXPAND5(c)`, the channel's most significant bits repeated in the 3 low bits (R102). -/
def expand5 (c : BitVec 5) : Byte := c ++ c.extractLsb' 2 3

/-- `EXPAND6(c)`, the channel's most significant bits repeated in the 2 low bits (R102). -/
def expand6 (c : BitVec 6) : Byte := c ++ c.extractLsb' 4 2

/-- `LUMA(r8, g8, b8)`, the weighted sum shifted right by 8 (R103). -/
def luma (cfg : Config) (r8 g8 b8 : Byte) : Nat := (cfg.wr * r8.toNat + cfg.wg * g8.toNat + cfg.wb * b8.toNat) >>> 8

/-- `R5 = p[15:11]` (20_memory.md R44). -/
def pixelR (p : Pixel16) : BitVec 5 := p.extractLsb' 11 5
/-- `G6 = p[10:5]` (20_memory.md R44). -/
def pixelG (p : Pixel16) : BitVec 6 := p.extractLsb' 5 6
/-- `B5 = p[4:0]` (20_memory.md R44). -/
def pixelB (p : Pixel16) : BitVec 5 := p.extractLsb' 0 5

/-- `CONV16(p)`: bits 7..4 of the luma of the expanded channels (R104). -/
def conv16 (cfg : Config) (p : Pixel16) : Nib :=
  BitVec.ofNat 4 (luma cfg (expand5 (pixelR p)) (expand6 (pixelG p)) (expand5 (pixelB p)) >>> 4)

/-- The 16-bit pixel of the bytes at the lower (`m0`) and the higher (`m1`) address (20_memory.md R44). -/
def pixelOfBytes (cfg : Config) (m0 m1 : Byte) : Pixel16 := if cfg.src16BE then m0 ++ m1 else m1 ++ m0

/-- `PACK(a, b)`: `a` the left pixel, in the high nibble (R106). -/
def pack (a b : Nib) : Byte := a ++ b

/-- `UNPACK(v)`, which exists only to state the law of R106. -/
def unpack (v : Byte) : Nib × Nib := (v.extractLsb' 4 4, v.extractLsb' 0 4)

end Sys2Proof.Machine
end

