-- ==== Sys2Proof/Machine/Ops.lean ====
section
/-! DEFINITION. The shared operations: SRC, the trace, WINDOW, SAMPLE, STREAM, the body of the flushes, the writes of the
result registers, the outcome of an illegal descriptor, and the block's reset (spec 20_memory.md R41, R42;
40_addressing.md R85; 41_pixel_pipeline.md R107, R108, R115; 60_exceptions.md R141, R146; 70_reset_and_hazards.md R160). -/

namespace Sys2Proof.Machine

/-! ### SRC -/

/-- What an address that SRC does not list holds: nothing (R41: a byte nothing has written holds no value; log 11). -/
def Memory.unlisted : Option Byte := none

/-- One byte of SRC, or none where nothing was written. -/
def Memory.read : Memory → Nat → Option Byte
  | [], _ => Memory.unlisted
  | (b, w) :: m, a => if a = b then some w else Memory.read m a

/-- Write one byte, keeping the addresses strictly rising. -/
def Memory.write : Memory → Nat → Byte → Memory
  | [], a, v => [(a, v)]
  | (b, w) :: m, a, v =>
    if a < b then (a, v) :: (b, w) :: m
    else if a = b then (a, v) :: m
    else (b, w) :: Memory.write m a v

/-- The canonical form: addresses strictly rising (every listed byte differs from `Memory.unlisted`, which is no value). -/
def Memory.wf : Memory → Bool
  | [] => true
  | (b, _) :: m => m.all (fun c => decide (b < c.1)) && Memory.wf m

/-- Every listed address is in `0 .. size - 1` (R42). -/
def Memory.within (size : Nat) (m : Memory) : Bool := m.all (fun c => decide (c.1 < size))

/-! ### The trace -/

/-- `emit`, for a list of events in order (00_scope.md R13). -/
def emit (es : List Event) (s : State) : State := { s with trace := s.trace ++ es }

/-- `WINDOW(cx1, cy1, cx2, cy2)`: column command, then row command, each `[start, end]` (R85, 20_memory.md R49). -/
def window (cfg : Config) (cx1 cy1 cx2 cy2 : Nat) : List Event :=
  [.cmd cfg.opcSetCol [BitVec.ofNat 8 (colUnit cfg cx1), BitVec.ofNat 8 (colUnit cfg cx2)],
   .cmd cfg.opcSetRow [BitVec.ofNat 8 (rowUnit cy1), BitVec.ofNat 8 (rowUnit cy2)]]

/-- The optional `Cmd(OPC_RAMWR, [])` (R108). -/
def ramWrite (cfg : Config) : List Event :=
  match cfg.opcRamWr with
  | none   => []
  | some c => [.cmd c []]

/-- One packed row: byte `i` holds pixels `ax1 + 2i` and `ax1 + 2i + 1` (R108). -/
def packedRow (ax1 ax2 y : Nat) (px : Nat → Nat → Nib) : List Byte :=
  (List.range ((ax2 - ax1 + 1) / 2)).map fun i => pack (px (ax1 + 2 * i) y) (px (ax1 + 2 * i + 1) y)

/-- `STREAM(ax1, cy1, ax2, cy2, px)`: the optional RAM-write command, then one `Data` per row, top to bottom (R108). -/
def stream (cfg : Config) (ax1 cy1 ax2 cy2 : Nat) (px : Nat → Nat → Nib) : List Event :=
  ramWrite cfg ++ (List.range (cy2 - cy1 + 1)).map fun j => .data (packedRow ax1 ax2 (cy1 + j) px)

/-- WINDOW and STREAM of the full panel, as FILL and TPAT use them (R109, R110). -/
def fullPanel (cfg : Config) (px : Nat → Nat → Nib) : List Event :=
  window cfg 0 0 (panelW - 1) (panelH - 1) ++ stream cfg 0 0 (panelW - 1) (panelH - 1) px

/-! ### Sampling SRC -/

/-- The byte at `addr`, or the SrcFault of a byte never written (R107, R146). -/
def readByte (m : Memory) (addr : Nat) : Except Fault Byte :=
  match Memory.read m addr with
  | some v => .ok v
  | none   => .error (.srcUnwritten addr)

/-- `MemRead` and conversion of the pixel at `addr`: the range test first, then the bytes in ascending order (R107). -/
def fetchPixel (cfg : Config) (m : Memory) (fmt : Fmt) (addr : Nat) : Except Fault Nib :=
  if cfg.stageBytes < addr + bpp fmt then .error (.srcUnmapped addr)
  else
    match fmt with
    | .g8 =>
      match readByte m addr with
      | .error f => .error f
      | .ok b    => .ok (conv8 b)
    | .rgb565 =>
      match readByte m addr with
      | .error f => .error f
      | .ok m0   =>
        match readByte m (addr + 1) with
        | .error f => .error f
        | .ok m1   => .ok (conv16 cfg (pixelOfBytes cfg m0 m1))

/-- `SAMPLE(fmt, x, y)`: black outside the clamped x-bounds without reading SRC, else the converted source pixel (R107). -/
def sample (cfg : Config) (m : Memory) (fmt : Fmt) (r : Rect) (base x y : Nat) : Except Fault Nib :=
  if x < clampX r.x1 ∨ clampX r.x2 < x then .ok 0#4
  else fetchPixel cfg m fmt (pixelAddr fmt r base x y)

/-- The fault of a sample, if it has one. -/
def faultOf : Except Fault Nib → Option Fault
  | .error f => some f
  | .ok _    => none

/-- The value of a sample that has no fault. -/
def valueOf : Except Fault Nib → Nib
  | .error _ => 0#4
  | .ok n    => n

/-- The positions of a rectangle in the order STREAM visits them: rows top to bottom, each left to right (R51, R108). -/
def raster (ax1 cy1 ax2 cy2 : Nat) : List (Nat × Nat) :=
  (List.range (cy2 - cy1 + 1)).flatMap fun j => (List.range (ax2 - ax1 + 1)).map fun i => (ax1 + i, cy1 + j)

/-- The first fault among the samples of a rectangle, in raster order. -/
def firstFault (px : Nat → Nat → Except Fault Nib) (ax1 cy1 ax2 cy2 : Nat) : Option Fault :=
  (raster ax1 cy1 ax2 cy2).findSome? fun p => faultOf (px p.1 p.2)

/-- `FLUSHCORE(fmt)`, the body FLUSH8 and FLUSH16 share (R115); its early exits in the order of 60_exceptions.md R149. A
SrcFault inside SAMPLE ends the operation without a defined trace (R146), so it is looked for first. -/
def flushCore (fmt : Fmt) (ctx : Bool) (r : Rect) (base : Nat) (s : State) : Host.Outcome State Fault Refusal :=
  if ctx = false then .next (complete resOk (emit [.ack] s))
  else if Degenerate r then .next (complete resOk (emit [.ack] s))
  else
    let ax1 := alo s.cfg (clampX r.x1)
    let ax2 := ahi s.cfg (clampX r.x2)
    let cy1 := clampY r.y1
    let cy2 := clampY r.y2
    let px  := sample s.cfg s.src fmt r base
    match firstFault px ax1 cy1 ax2 cy2 with
    | some f => .fault f
    | none   =>
      .next (complete resOk (emit (window s.cfg ax1 cy1 ax2 cy2 ++ stream s.cfg ax1 cy1 ax2 cy2 (fun x y => valueOf (px x y)) ++
        [.ack]) s))

/-! ### Result registers -/

/-- Write RX1, RY1, RX2, RY2, 16 bits each (10_state.md R27). -/
def setRect (r : Rect) (s : State) : State :=
  { s with rx1 := BitVec.ofInt 16 r.x1, ry1 := BitVec.ofInt 16 r.y1, rx2 := BitVec.ofInt 16 r.x2,
           ry2 := BitVec.ofInt 16 r.y2, roundDone := true }

/-- Write STG_LINES and STG_FMT (10_state.md R29). -/
def setStaging (lines : Nat) (fmt : Fmt) (s : State) : State := { s with stgLines := BitVec.ofNat 5 lines, stgFmt := fmt }

/-! ### The host's store, issue, illegal descriptors, reset -/

/-- The host writes one byte of SRC (20_memory.md R41, 70_reset_and_hazards.md R173). -/
def storeSrc (a : Nat) (v : Byte) (s : State) : State := { s with src := Memory.write s.src a v }

/-- Issue: the descriptor is copied into DL and `BUSY <- 1` (10_state.md R21). -/
def latch (d : Desc) (s : State) : State := { s with dl := d, busy := true }

/-- The operation code is that of a flush. -/
def isFlushOpc (d : Desc) : Bool := decide (d.opc = 0x04#8) || decide (d.opc = 0x05#8)

/-- What an illegal descriptor does, in the place of a trap: `Ack` iff its code is a flush's, then `RES <- 0x80`
(60_exceptions.md R141, R150). -/
def takeIllegal (d : Desc) (s : State) : State := complete resIllegal (emit (if isFlushOpc d then [.ack] else []) s)

/-- The block's reset (70_reset_and_hazards.md R160): the state of 10_state.md R38; SRC and CFG unchanged; the host's own
lists and the model's counter are not the block's (log 15). DESIGN CHOICE (log 24): a byte of SRC written before this reset
still holds its value after it, as R160's "SRC contents unchanged" says, where 20_memory.md R41 and 60_exceptions.md R146
speak of bytes not written since reset. -/
def resetBlock (s : State) : State :=
  { State.resetWith s.cfg with src := s.src, host := s.host, replies := s.replies, freeCtr := s.freeCtr }

/-- The source region of the flush in progress holds `a` (70_reset_and_hazards.md R165), or no flush is in progress. -/
def writeRaces (d : Desc) (a : Nat) : Bool :=
  match decode d with
  | .ok (.flush8 _ r base)  => decide (InSourceRegion .g8 r base a)
  | .ok (.flush16 _ r base) => decide (InSourceRegion .rgb565 r base a)
  | .ok (.setwin _)         => true
  | .ok (.fill _)           => true
  | .ok .tpat               => true
  | .ok (.round _)          => true
  | .ok (.setup _ _)        => true
  | .error _                => true

end Sys2Proof.Machine
end

