-- ==== Sys2Proof/Machine/Addressing.lean ====
section
/-! DEFINITION. The window operation SETWIN (spec 40_addressing.md R88). -/

namespace Sys2Proof.Machine

/-- SETWIN (R88): no event for a degenerate rectangle, else the window of the clamped one. -/
def execSetwin (r : Rect) (s : State) : Host.Outcome State Fault Refusal :=
  .next (complete resOk (emit
    (if Degenerate r then [] else window s.cfg (clampX r.x1) (clampY r.y1) (clampX r.x2) (clampY r.y2)) s))

end Sys2Proof.Machine
end

