-- ==== Sys2Proof/Machine/Integration.lean ====
section
/-! DEFINITION. Rectangle rounding and staging set-up, ROUND and SETUP (spec 42_integration.md R130, R132). -/

namespace Sys2Proof.Machine

/-- The rectangle ROUND returns (R130): left bound down to an even x and at least 0, right bound up to an odd x and at most
`W - 1`, y passed through. Division by 2 is floor division (00_scope.md R11). -/
def roundRect (r : Rect) : Rect :=
  { x1 := max 0 (2 * (r.x1 / 2)), y1 := r.y1, x2 := min ((panelW : Int) - 1) (2 * (r.x2 / 2) + 1), y2 := r.y2 }

/-- ROUND (R130). -/
def execRound (r : Rect) (s : State) : Host.Outcome State Fault Refusal :=
  .next (complete resOk (setRect (roundRect r) s))

/-- SETUP accepts this configuration (R132): 1 to `MAX_LINES` lines, and `W * LINES * bpp` bytes fit. -/
abbrev SetupAccepts (cfg : Config) (lines : Nat) (fmt : Fmt) : Prop :=
  1 ≤ lines ∧ lines ≤ maxLines ∧ panelW * lines * bpp fmt ≤ cfg.stageBytes

/-- SETUP (R132). -/
def execSetup (lines : Nat) (fmt : Fmt) (s : State) : Host.Outcome State Fault Refusal :=
  .next (if SetupAccepts s.cfg lines fmt then complete resOk (setStaging lines fmt s) else complete resFail s)

end Sys2Proof.Machine
end

