-- ==== Sys2Proof/Machine/Pipeline.lean ====
section
/-! DEFINITION. The data operations FILL, TPAT, FLUSH8, FLUSH16 (spec 41_pixel_pipeline.md R109 to R112, R115). -/

namespace Sys2Proof.Machine

/-- FILL (R109): one gray value over the full panel. -/
def execFill (v : Nib) (s : State) : Host.Outcome State Fault Refusal :=
  .next (complete resOk (emit (fullPanel s.cfg fun _ _ => v) s))

/-- TPAT (R110): the configuration's test pattern over the full panel. -/
def execTpat (s : State) : Host.Outcome State Fault Refusal :=
  .next (complete resOk (emit (fullPanel s.cfg Config.testPat) s))

/-- FLUSH8 (R111): `FLUSHCORE(G8)`. -/
def execFlush8 (ctx : Bool) (r : Rect) (base : Nat) (s : State) : Host.Outcome State Fault Refusal :=
  flushCore .g8 ctx r base s

/-- FLUSH16 (R112): `FLUSHCORE(RGB565)`. -/
def execFlush16 (ctx : Bool) (r : Rect) (base : Nat) (s : State) : Host.Outcome State Fault Refusal :=
  flushCore .rgb565 ctx r base s

end Sys2Proof.Machine
end

