-- ==== Sys2Proof/Machine/Dispatch.lean ====
section
/-! DEFINITION. The dispatch: one arm per constructor of Instr (spec 30_encoding.md R63). -/

namespace Sys2Proof.Machine

/-- The operation of an instruction, on the state in which it was issued. -/
def exec (i : Instr) (s : State) : Host.Outcome State Fault Refusal :=
  match i with
  | .setwin r => Sys2Proof.Machine.execSetwin r s
  | .fill v => Sys2Proof.Machine.execFill v s
  | .tpat => Sys2Proof.Machine.execTpat s
  | .flush8 ctx r base => Sys2Proof.Machine.execFlush8 ctx r base s
  | .flush16 ctx r base => Sys2Proof.Machine.execFlush16 ctx r base s
  | .round r => Sys2Proof.Machine.execRound r s
  | .setup lines fmt => Sys2Proof.Machine.execSetup lines fmt s

end Sys2Proof.Machine
end

