-- ==== Sys2Proof/Machine/HostMoves.lean ====
section
/-! DEFINITION. What the block does for each move of the host (spec 70_reset_and_hazards.md R173, 10_state.md R21, R22). Of the
moves whose condition does not hold, an offer while BUSY = 1 has no effect (R21; log 9), a read is answered as refused (log 8),
and the others are refused by name (log 8). -/

namespace Sys2Proof.Machine

/-- Issue a descriptor (R21): latch it and run its operation, legal or not, as one step (10_state.md R34). -/
def issue (d : Desc) (s : State) : Host.Outcome State Fault Refusal :=
  if s.busy then .next s
  else
    match decode d with
    | .ok i    => exec i (latch d s)
    | .error _ => .next (takeIllegal d (latch d s))

/-- Write one SRC byte (R173, first row; R165). -/
def writeSrc (a : Nat) (v : Byte) (s : State) : Host.Outcome State Fault Refusal :=
  if s.cfg.stageBytes ≤ a then .refused (.srcWriteUnmapped a)
  else if s.busy && writeRaces s.dl a then .refused (.srcWriteRace a)
  else .next (storeSrc a v s)

/-- The condition of a move in the table of R173 (for RX1..RY2 with 10_state.md R38, log 20; for SRC with R165). -/
def HostMove.available (m : HostMove) (s : State) : Bool :=
  match m with
  | .writeSrc a _ => decide (a < s.cfg.stageBytes) && (!s.busy || !writeRaces s.dl a)
  | .issue _      => !s.busy
  | .readBusy     => true
  | .readRes      => !s.busy
  | .readStgLines => !s.busy
  | .readStgFmt   => !s.busy
  | .readRect     => !s.busy && s.roundDone
  | .rst          => !s.busy

/-- The host gets the value of an available read (R173); the block does nothing. -/
def answer (v : PortValue) (s : State) : State := { s with replies := s.replies ++ [.value v] }

/-- The host's read is refused: it is told that no value is available, and the port shows a free value, which the counter
supplied; the block does nothing (log 8). -/
def answerFree (shown : PortValue) (s : State) : State :=
  { s with replies := s.replies ++ [.unavailable shown], freeCtr := s.freeCtr + 1 }

/-- A read of a register other than BUSY: its value where the read is available (R173), else refused, the port showing a free
value (R22: readable at any time, meaningful only while BUSY = 0; log 8). -/
def answerRead (available : Bool) (v : PortValue) (unspecified : Nat → PortValue) (s : State) : State :=
  if available then answer v s else answerFree (unspecified s.freeCtr) s

/-- What the port shows of RX1, RY1, RX2, RY2 where they hold no defined value (R22, R38; log 8). -/
def freeRect (n : Nat) : PortValue := .rect (Config.freeRx1 n) (Config.freeRy1 n) (Config.freeRx2 n) (Config.freeRy2 n)

/-- Assert `rst` (R160, R161). -/
def assertRst (s : State) : Host.Outcome State Fault Refusal :=
  if s.busy then .refused .resetWhileBusy else .next (resetBlock s)

/-- One move of the host. -/
def perform (m : HostMove) (s : State) : Host.Outcome State Fault Refusal :=
  match m with
  | .writeSrc a v => writeSrc a v s
  | .issue d      => issue d s
  | .readBusy     => .next (answer (.busy s.busy) s)
  | .readRes      => .next (answerRead (m.available s) (.res s.res) (fun n => .res (Config.freeRes n)) s)
  | .readStgLines => .next (answerRead (m.available s) (.stgLines s.stgLines) (fun n => .stgLines (Config.freeStgLines n)) s)
  | .readStgFmt   => .next (answerRead (m.available s) (.stgFmt s.stgFmt) (fun n => .stgFmt (Fmt.ofBit (Config.freeStgFmt n))) s)
  | .readRect     => .next (answerRead (m.available s) (.rect s.rx1 s.ry1 s.rx2 s.ry2) freeRect s)
  | .rst          => assertRst s

/-- The host has `ms` left to do. -/
def dropMove (ms : List HostMove) (s : State) : State := { s with host := ms }

/-- Take the next move of the host off the list and perform it; with none left the block waits (R160, R174; log 7). -/
def nextMove (s : State) : Host.Outcome State Fault Refusal :=
  match s.host with
  | []      => .next s
  | m :: ms => perform m (dropMove ms s)

/-- Put the issue of a descriptor in front of the host's moves, with the block ready to accept it (R21: `cmd_ready = not
BUSY`). -/
def offer (d : Desc) (s : State) : State := { s with host := .issue d :: s.host, busy := false }

end Sys2Proof.Machine
end

