-- ==== Sys2Proof/Machine/Step.lean ====
section
/-! DEFINITION. One step: the host's next move and all the block does for it (spec 10_state.md R34, 70_reset_and_hazards.md
R173), for a configuration that meets 00_scope.md R8. -/

namespace Sys2Proof.Machine

/-- One step of the machine. A configuration that violates R8 is refused (R8). -/
def step (s : State) : Host.Outcome State Fault Refusal :=
  if s.cfg.Valid then nextMove s else .refused .invalidConfig

/-- The state in which the very next step issues the descriptor whose low `nbits` bits are those of `w`, every bit above
them zero (log 7). -/
def State.withFetchWord (s : State) (nbits w : Nat) : State := offer (BitVec.ofNat 128 (w % 2 ^ nbits)) s

end Sys2Proof.Machine
end

