-- ==== Sys2Proof/Machine/Bus.lean ====
section
/-! DEFINITION. Views of the trace: the bus events, the flattened stream, the data bytes, and the wire form of a
transaction (spec 00_scope.md R13, 20_memory.md R45, R46). The block emits events; these functions only read them. -/

namespace Sys2Proof.Machine

/-- The bus transaction of an event, an `Ack` being none (R13). -/
def busEvent : Event → List Event
  | .cmd op ps => [.cmd op ps]
  | .data bs   => [.data bs]
  | .ack       => []

/-- `bus(T)`: the trace with the `Ack` events removed (R13). -/
def bus (T : List Event) : List Event := T.flatMap busEvent

/-- The tagged bytes of an event: false is a byte with D/C low (the 0 of R46), true one with D/C high. -/
def eventBytes : Event → List (Bool × Byte)
  | .cmd op ps => (false, op) :: ps.map fun p => (true, p)
  | .data bs   => bs.map fun b => (true, b)
  | .ack       => []

/-- `bytes(T)`, the flattened stream (R46). -/
def flatBytes (T : List Event) : List (Bool × Byte) := (bus T).flatMap eventBytes

/-- The payload of a `Data` event. -/
def payload : Event → List Byte
  | .cmd _ _ => []
  | .data bs => bs
  | .ack     => []

/-- `data(T)`, the bytes that come from `Data` events (R46). -/
def dataBytes (T : List Event) : List Byte := (bus T).flatMap payload

/-- The `Data` payloads of a trace, in order. -/
def payloads : List Event → List (List Byte)
  | []             => []
  | .cmd _ _ :: T  => payloads T
  | .data bs :: T  => bs :: payloads T
  | .ack :: T      => payloads T

/-- The number of `Ack` events in a trace (R114). -/
def acks : List Event → Nat
  | []            => 0
  | .cmd _ _ :: T => acks T
  | .data _ :: T  => acks T
  | .ack :: T     => acks T + 1

/-- What a transaction does on the wire (R45). -/
inductive WireAct where
  /-- chip-select asserted. -/
  | csAssert
  /-- one byte shifted, `dc` the level of the data/command line. -/
  | shift (dc : Bool) (b : Byte)
  /-- chip-select deasserted. -/
  | csRelease
deriving DecidableEq, Repr

/-- The wire form of an event: one chip-select bracket around its bytes; an `Ack` is not on the bus (R45, R170). -/
def wire : Event → List WireAct
  | .cmd op ps => .csAssert :: .shift false op :: ps.map (WireAct.shift true) ++ [.csRelease]
  | .data bs   => .csAssert :: bs.map (WireAct.shift true) ++ [.csRelease]
  | .ack       => []

/-- Every chip-select bracket is opened once and closed once, and no byte is shifted outside a bracket; `selected` says
whether chip-select is asserted at the start (R45, 70_reset_and_hazards.md R170). -/
def bracketsClosed : Bool → List WireAct → Bool
  | selected, []               => !selected
  | selected, .csAssert :: w   => !selected && bracketsClosed true w
  | selected, .shift _ _ :: w  => selected && bracketsClosed selected w
  | selected, .csRelease :: w  => selected && bracketsClosed false w

/-- The bytes shifted on the wire with the level of the data/command line. -/
def shifted : List WireAct → List (Bool × Byte)
  | []                => []
  | .csAssert :: w    => shifted w
  | .shift dc b :: w  => (dc, b) :: shifted w
  | .csRelease :: w   => shifted w

end Sys2Proof.Machine
end

