-- ==== Sys2Proof/Machine/Controller.lean ====
section
/-! DEFINITION. An OBSERVER of the trace, outside the block and outside State: what the controller's RAM holds, under the
pointer order that spec 41_pixel_pipeline.md R116 and 93_implementation_defined.md U17 assume (PRESUMED, log 14). The block
never reads it (10_state.md R35). -/

namespace Sys2Proof.Machine

/-- A window in address units and the data bytes received since it was declared (10_state.md R35). -/
structure Window where
  colStart : Nat
  colEnd   : Nat
  rowStart : Nat
  rowEnd   : Nat
  received : List Byte
deriving DecidableEq, Repr

/-- The first pixel column of a window (40_addressing.md R86). -/
def Window.x0 (cfg : Config) (w : Window) : Nat := (w.colStart - cfg.colOff) * cfg.q
/-- The number of pixel columns of a window (40_addressing.md R86). -/
def Window.width (cfg : Config) (w : Window) : Nat := (w.colEnd + 1 - w.colStart) * cfg.q
/-- The number of data bytes a window holds (40_addressing.md R87). -/
def Window.expected (cfg : Config) (w : Window) : Nat := w.width cfg / 2 * (w.rowEnd + 1 - w.rowStart)

/-- The gray level the data of a window put at panel position `(x, y)`: the pointer runs along a row first, two pixels a
byte, high nibble left. None where the window's data do not reach. -/
def Window.pixel (cfg : Config) (w : Window) (x y : Nat) : Option Nib :=
  if w.x0 cfg ≤ x ∧ x < w.x0 cfg + w.width cfg ∧ w.rowStart ≤ y ∧ y ≤ w.rowEnd then
    match w.received[(y - w.rowStart) * (w.width cfg / 2) + (x - w.x0 cfg) / 2]? with
    | some b => if (x - w.x0 cfg) % 2 = 0 then some (b.extractLsb' 4 4) else some (b.extractLsb' 0 4)
    | none   => none
  else none

/-- The controller: its declared window, and the windows declared before it with their data, the latest first. What its RAM
holds is read off them (`Controller.pixel`). -/
structure Controller where
  window : Window
  older  : List Window
deriving DecidableEq, Repr

/-- Declare a window: it starts empty, and what the one before it received stays in the RAM. -/
def Controller.declare (c : Controller) (w : Window) : Controller := { window := w, older := c.window :: c.older }

/-- The controller takes one event of the bus: an address command declares that part of the window and starts it over, a
data transaction fills it on. DESIGN CHOICE (log 14): data beyond the declared window, or fewer than it holds, is neither a
fault (as 93_implementation_defined.md U1 would have it) nor a wrap of the pointer (10_state.md R35): the bytes are appended,
and `Window.pixel` never reads those beyond the window. The block never sends such a count (R113). -/
def Controller.accept (cfg : Config) (c : Controller) : Event → Controller
  | .cmd op [a, b] =>
    if op = cfg.opcSetCol then c.declare { c.window with colStart := a.toNat, colEnd := b.toNat, received := [] }
    else if op = cfg.opcSetRow then c.declare { c.window with rowStart := a.toNat, rowEnd := b.toNat, received := [] }
    else c
  | .cmd _ []                 => c
  | .cmd _ [_]                => c
  | .cmd _ (_ :: _ :: _ :: _) => c
  | .data bs                  => { c with window := { c.window with received := c.window.received ++ bs } }
  | .ack                      => c

/-- The controller takes a list of events. -/
def Controller.acceptAll (cfg : Config) (c : Controller) (es : List Event) : Controller := es.foldl (Controller.accept cfg) c

/-- What the RAM holds at panel position `(x, y)`: what the latest window whose data reached it put there; none where no data
have reached. -/
def Controller.pixel (cfg : Config) (c : Controller) (x y : Nat) : Option Nib :=
  (c.window :: c.older).findSome? fun w => w.pixel cfg x y

end Sys2Proof.Machine
end

