-- ==== Sys2Proof/Safety.lean ====
section
/-! DEFINITION. What counts as a safe state and a safe flush, and the vocabulary of the statements (spec 10_state.md R28 to
R30; 20_memory.md R42; 60_exceptions.md R146; 70_reset_and_hazards.md R165, R168, R173). -/

namespace Sys2Proof.Machine

/-- The invariant every step keeps: idle between steps (R34), SRC canonical and inside its address range (R42), RES one of
its three values (R28), STG_LINES at most 16 (R29), the configuration legal (00_scope.md R8). -/
structure Invariant (s : State) : Prop where
  valid   : s.cfg.Valid
  idle    : s.busy = false
  srcWf   : Memory.wf s.src = true
  srcIn   : Memory.within s.cfg.stageBytes s.src = true
  resCode : s.res = 0x00#8 ∨ s.res = 0x01#8 ∨ s.res = 0x80#8
  lines   : s.stgLines.toNat ≤ 16

/-- The pixel at an SRC address can be read: inside SRC and every byte written (R146). -/
def PixelReady (cfg : Config) (m : Memory) (fmt : Fmt) (a : Nat) : Prop :=
  a + bpp fmt ≤ cfg.stageBytes ∧ ∀ k, k < bpp fmt → (Memory.read m (a + k)).isSome = true

/-- Every pixel of the clamped rectangle can be read (what the host owes a flush, R146, R168). -/
def SourceReady (s : State) (fmt : Fmt) (r : Rect) (base : Nat) : Prop :=
  ∀ x y, clampX r.x1 ≤ x → x ≤ clampX r.x2 → clampY r.y1 ≤ y → y ≤ clampY r.y2 →
    PixelReady s.cfg s.src fmt (pixelAddr fmt r base x y)

/-- The whole source region lies inside SRC (R168). -/
def RegionInside (cfg : Config) (fmt : Fmt) (r : Rect) (base : Nat) : Prop :=
  (base : Int) + (bpp fmt : Int) * (r.x2 - r.x1 + 1) * (r.y2 - r.y1 + 1) ≤ (cfg.stageBytes : Int)

/-- Every byte of the source region has been written. -/
def RegionWritten (m : Memory) (fmt : Fmt) (r : Rect) (base : Nat) : Prop :=
  ∀ a, InSourceRegion fmt r base a → (Memory.read m a).isSome = true

/-- `n` is the converted pixel that lies at SRC address `a` (20_memory.md R43, R44; 41_pixel_pipeline.md R101, R104). -/
def SourcePixel (cfg : Config) (m : Memory) (a : Nat) (n : Nib) : Fmt → Prop
  | .g8     => ∃ b, Memory.read m a = some b ∧ n = conv8 b
  | .rgb565 => ∃ m0 m1, Memory.read m a = some m0 ∧ Memory.read m (a + 1) = some m1 ∧ n = conv16 cfg (pixelOfBytes cfg m0 m1)

/-- `n` is what a flush shows at panel position `(x, y)`: 0 on the alignment margin, the converted source pixel inside the
clamped x-bounds (41_pixel_pipeline.md R107). -/
def SampleIs (s : State) (fmt : Fmt) (r : Rect) (base x y : Nat) (n : Nib) : Prop :=
  (x < clampX r.x1 ∨ clampX r.x2 < x → n = 0#4) ∧
    (clampX r.x1 ≤ x → x ≤ clampX r.x2 → SourcePixel s.cfg s.src (pixelAddr fmt r base x y) n fmt)

/-- The optional `Cmd(OPC_RAMWR, [])` of a configuration (41_pixel_pipeline.md R108). -/
def optionalRamWrite (cfg : Config) : List Event := cfg.opcRamWr.toList.map fun c => .cmd c []

/-- The flush operation of a format: FLUSH8 for G8, FLUSH16 for RGB565. -/
def flushOp : Fmt → Bool → Rect → Nat → Instr
  | .g8     => .flush8
  | .rgb565 => .flush16

/-- Four coordinates fit their 16-bit two's-complement fields (30_encoding.md R61, R62). -/
def CoordsFit (x1 y1 x2 y2 : Int) : Prop :=
  (-32768 ≤ x1 ∧ x1 ≤ 32767) ∧ (-32768 ≤ y1 ∧ y1 ≤ 32767) ∧ (-32768 ≤ x2 ∧ x2 ≤ 32767) ∧ (-32768 ≤ y2 ∧ y2 ≤ 32767)

/-- The assembler accepts the line, and its descriptor decodes to the instruction (30_encoding.md R67). -/
def AssemblesTo (l : AsmLine) (i : Instr) : Prop := ∃ d, assemble l = some d ∧ decode d = .ok i

/-- Every byte of SRC reads the same. -/
def SameSrc (s t : State) : Prop := ∀ a, Memory.read t.src a = Memory.read s.src a

/-- RX1, RY1, RX2, RY2 are the same, and whether a ROUND has completed. -/
def SameRect (s t : State) : Prop :=
  t.rx1 = s.rx1 ∧ t.ry1 = s.ry1 ∧ t.rx2 = s.rx2 ∧ t.ry2 = s.ry2 ∧ t.roundDone = s.roundDone

/-- STG_LINES and STG_FMT are the same. -/
def SameStaging (s t : State) : Prop := t.stgLines = s.stgLines ∧ t.stgFmt = s.stgFmt

/-- What no operation of the block writes: CFG, DL, the host's moves and replies. -/
def SameSurroundings (s t : State) : Prop := t.cfg = s.cfg ∧ t.dl = s.dl ∧ t.host = s.host ∧ t.replies = s.replies

/-- The state with other values in every register the host can read and no operation reads (10_state.md R29, R32). -/
def withResults (s : State) (res : Byte) (rx1 ry1 rx2 ry2 : Half) (done : Bool) (lines : BitVec 5) (fmt : Fmt) : State :=
  { s with res := res, rx1 := rx1, ry1 := ry1, rx2 := rx2, ry2 := ry2, roundDone := done, stgLines := lines, stgFmt := fmt }

end Sys2Proof.Machine
end

