-- ==== Sys2Proof/Certificates/Slice0/Obligations.lean ====
section
/-! DEFINITION. The statements for the provers. Each docstring names the rule of the spec it formalises. -/

open Sys2Proof Sys2Proof.Machine

/-! ### Reset -/

/-- 10_state.md R38 (the spec's decision D23): the values the spec gives for reset, for every configuration; RX1..RY2 have no
defined value, so the host's read of them is answered as refused (R38; that the machine goes on, and that the port shows some
value of which nothing is said, is the model's choice, log 8); DL and the sequencer are unspecified and nothing is said of them. `State.reset` is
this state for a legal configuration. -/
def Obligations.ResetStateAsSpecified : Prop :=
  (∃ cfg, State.reset = State.resetWith cfg ∧ cfg.Valid) ∧
  ∀ cfg ms, (State.resetWith cfg).busy = false ∧ (State.resetWith cfg).res = 0x00#8 ∧ (State.resetWith cfg).stgLines = 0#5 ∧
    (State.resetWith cfg).stgFmt = .g8 ∧ (∀ a, Memory.read (State.resetWith cfg).src a = none) ∧
    (State.resetWith cfg).trace = [] ∧ (State.resetWith cfg).cfg = cfg ∧
    (cfg.Valid → ∃ a b c d n, step { State.resetWith cfg with host := .readRect :: ms } =
      .next { State.resetWith cfg with host := ms, replies := [.unavailable (.rect a b c d)], freeCtr := n })

/-- 70_reset_and_hazards.md R160, R161: `rst` while BUSY = 0 restores the reset values, keeps SRC and CFG, emits nothing,
and the block then waits; RX1..RY2 are unspecified, so the host's read of them is answered as refused (R38; the
model's form of it, log 8); while BUSY = 1 `rst` is refused (the spec's decisions D23, D24). That the host's lists of moves and answers stay is the model's choice (log 15), and so is that
a byte of SRC written before it still counts as written (log 24). -/
def Obligations.BlockResetOnlyWhileIdle : Prop :=
  ∀ (s : State) ms, s.cfg.Valid → s.host = .rst :: ms →
    (s.busy = false → ∃ t, step s = .next t ∧ t.busy = false ∧ t.res = 0x00#8 ∧ t.stgLines = 0#5 ∧ t.stgFmt = .g8 ∧
      t.trace = [] ∧ SameSrc s t ∧ t.cfg = s.cfg ∧ t.host = ms ∧ t.replies = s.replies ∧
      (∀ k, ∃ a b c d n, step { t with host := .readRect :: k } =
        .next { t with host := k, replies := t.replies ++ [.unavailable (.rect a b c d)], freeCtr := n }) ∧
      (ms = [] → step t = .next t)) ∧
    (s.busy = true → step s = .refused .resetWhileBusy)

/-- 00_scope.md R8 (the spec's decisions D9, D10): a step refuses a configuration exactly when it violates one of the
constraints. That every step refuses it, whatever the host's move and also with none left, is the model's choice (log 3). -/
def Obligations.InvalidConfigurationIsRefused : Prop :=
  ∀ (s : State), step s = .refused .invalidConfig ↔
    ¬ ((s.cfg.q = 2 ∨ s.cfg.q = 4) ∧ s.cfg.colOff + (256 - 1) / s.cfg.q ≤ 255 ∧ s.cfg.wr + s.cfg.wg + s.cfg.wb ≤ 256 ∧
      s.cfg.opcSetCol ≠ s.cfg.opcSetRow ∧ (∀ c, s.cfg.opcRamWr = some c → c ≠ s.cfg.opcSetCol ∧ c ≠ s.cfg.opcSetRow) ∧
      1 ≤ s.cfg.stageBytes)

/-! ### Issue and step -/

/-- 10_state.md R21, R34: when the host issues a descriptor that decodes to `i` while BUSY = 0, the step is the operation of
`i` on the state with DL loaded and BUSY set; `withFetchWord` places a descriptor so that the next step is its operation. -/
def Obligations.StepRunsDecodedInstruction : Prop :=
  (∀ (s : State) d i ms, s.cfg.Valid → s.busy = false → s.host = .issue d :: ms → decode d = .ok i →
    step s = exec i { s with host := ms, dl := d, busy := true }) ∧
  (∀ (s : State) (d : Desc) i, s.cfg.Valid → decode d = .ok i →
    step (s.withFetchWord 128 d.toNat) = exec i { s with dl := d, busy := true })

/-- 10_state.md R21: a descriptor offered while BUSY = 1 has no effect (that R21 and not R173 is followed here is DEDUCED, log
9); 70_reset_and_hazards.md R174: without a further move nothing changes (the model's rendering, log 7). -/
def Obligations.OfferWhileBusyHasNoEffect : Prop :=
  (∀ (s : State) d ms, s.cfg.Valid → s.busy = true → s.host = .issue d :: ms → step s = .next { s with host := ms }) ∧
  (∀ (s : State), s.cfg.Valid → s.host = [] → step s = .next s)

/-- 60_exceptions.md R141 (the spec's decision D6): an illegal descriptor emits one `Ack` exactly when its code is a flush's, sets RES to 0x80 and
changes nothing else of RX, STG, SRC. -/
def Obligations.IllegalDescriptorOutcome : Prop :=
  ∀ (s : State) d ms e, s.cfg.Valid → s.busy = false → s.host = .issue d :: ms → decode d = .error e →
    ∃ t, step s = .next t ∧ t.res = 0x80#8 ∧ t.busy = false ∧
      (d.extractLsb' 0 8 = 0x04#8 ∨ d.extractLsb' 0 8 = 0x05#8 → t.trace = s.trace ++ [.ack]) ∧
      (d.extractLsb' 0 8 ≠ 0x04#8 → d.extractLsb' 0 8 ≠ 0x05#8 → t.trace = s.trace) ∧
      SameRect s t ∧ SameStaging s t ∧ SameSrc s t ∧ t.cfg = s.cfg ∧ t.dl = d ∧ t.host = ms ∧ t.replies = s.replies

/-- 70_reset_and_hazards.md R172, 10_state.md R34: an issued descriptor's operation ends with BUSY = 0 and DL as issued; the
only other end is the SrcFault of a flush whose source is not ready. It holds of a bus sink that accepts every
transaction (decision D26, log 12). -/
def Obligations.EveryIssuedOperationEnds : Prop :=
  ∀ (s : State) d ms, s.cfg.Valid → s.busy = false → s.host = .issue d :: ms →
    (∃ t, step s = .next t ∧ t.busy = false ∧ t.dl = d ∧ t.host = ms) ∨
    (∃ f fmt r base, step s = .fault f ∧ decode d = .ok (flushOp fmt true r base) ∧ ¬ Degenerate r ∧
      ¬ SourceReady s fmt r base)

/-- 60_exceptions.md R149 (the spec's decision D28): Illegal before MissingContext before DegenerateGeometry before SrcFault; SETUP alone is refused. -/
def Obligations.PriorityOfFailures : Prop :=
  ∀ (s : State) d ms, s.cfg.Valid → s.busy = false → s.host = .issue d :: ms →
    (∀ e, decode d = .error e → ∃ t, step s = .next t ∧ t.res = 0x80#8) ∧
    (∀ fmt r base, decode d = .ok (flushOp fmt false r base) →
      ∃ t, step s = .next t ∧ t.res = 0x00#8 ∧ t.trace = s.trace ++ [.ack]) ∧
    (∀ fmt r base, decode d = .ok (flushOp fmt true r base) → Degenerate r →
      ∃ t, step s = .next t ∧ t.res = 0x00#8 ∧ t.trace = s.trace ++ [.ack]) ∧
    (∀ f, step s = .fault f → ∃ fmt r base, decode d = .ok (flushOp fmt true r base) ∧ ¬ Degenerate r) ∧
    (∀ t, step s = .next t → t.res = 0x01#8 → ∃ lines fmt, decode d = .ok (.setup lines fmt))

/-! ### Encoding -/

/-- 30_encoding.md R64: encoding then decoding is the identity on well-formed instructions. -/
def Obligations.DecodeEncodeRoundTrip : Prop :=
  ∀ i : Instr, i.wellFormed = true → decode (encode i) = .ok i

/-- 30_encoding.md R64: decoding then encoding is the identity on legal descriptors, and a decoded instruction is well
formed (R62). -/
def Obligations.EncodeDecodeRoundTrip : Prop :=
  ∀ d i, decode d = .ok i → encode i = d ∧ i.wellFormed = true

/-- 30_encoding.md R64: a descriptor is legal exactly when it meets the mask and match of a row, the row of the instruction
it decodes to; the rows are pairwise disjoint. -/
def Obligations.LegalExactlyWhenMaskMatches : Prop :=
  (∀ d, (∃ i, decode d = .ok i) ↔ ∃ row, row ∈ descTable ∧ d &&& row.mask = row.code) ∧
  (∀ d i, decode d = .ok i → d &&& i.row.mask = i.row.code ∧ i.row ∈ descTable) ∧
  (∀ d (j k : Nat) rj rk, descTable[j]? = some rj → descTable[k]? = some rk → d &&& rj.mask = rj.code →
    d &&& rk.mask = rk.code → j = k)

/-- 95_test_vectors.md V1: words of every operation, written out from R61, decode to the operation they stand for, and
reserved words are illegal. -/
def Obligations.WorkedDescriptorsDecode : Prop :=
  decode 0x00000000000000030003FFFBFFFB0001#128 = .ok (.setwin { x1 := -5, y1 := -5, x2 := 3, y2 := 3 }) ∧
  decode 0x00000000000000000000000000000F02#128 = .ok (.fill 15#4) ∧
  decode 0x00000000000000000000000000000003#128 = .ok .tpat ∧
  decode 0x00000000000000000001FFFFFFFE0104#128 = .ok (.flush8 true { x1 := -2, y1 := -1, x2 := 1, y2 := 0 } 0) ∧
  decode 0x000000000010000B0009000A00040105#128 = .ok (.flush16 true { x1 := 4, y1 := 10, x2 := 9, y2 := 11 } 16) ∧
  decode 0x000000000000000B0008000A00050006#128 = .ok (.round { x1 := 5, y1 := 10, x2 := 8, y2 := 11 }) ∧
  decode 0x00000000000000000000000000002207#128 = .ok (.setup 2 .rgb565) ∧
  decode 0x00000000000000000000000000000000#128 = .error (.reservedOpcode 0x00#8) ∧
  decode 0x80000000000000010001000000000105#128 = .error .rsvNotZero

/-- 30_encoding.md R67, R68, form by form: a line whose values fit its fields becomes a legal descriptor that decodes to the
operation it names with the line's coordinates, `base`, `ctx` (default 1), `v`, `lines` and `fmt`; BLACK is FILL 0 and WHITE is
FILL 15. R67 says that a `v` above 15 is refused and bounds `lines` by 31; that every other value outside its field is refused
as well is the model's choice (log 23). -/
def Obligations.AssemblerMakesLegalDescriptors : Prop :=
  (∀ x1 y1 x2 y2, CoordsFit x1 y1 x2 y2 →
    AssemblesTo (.setwin x1 y1 x2 y2) (.setwin { x1 := x1, y1 := y1, x2 := x2, y2 := y2 }) ∧
    AssemblesTo (.round x1 y1 x2 y2) (.round { x1 := x1, y1 := y1, x2 := x2, y2 := y2 }) ∧
    ∀ base, base < 2 ^ 32 →
      AssemblesTo (.flush8 x1 y1 x2 y2 base none) (.flush8 true { x1 := x1, y1 := y1, x2 := x2, y2 := y2 } base) ∧
      AssemblesTo (.flush8 x1 y1 x2 y2 base (some 1)) (.flush8 true { x1 := x1, y1 := y1, x2 := x2, y2 := y2 } base) ∧
      AssemblesTo (.flush8 x1 y1 x2 y2 base (some 0)) (.flush8 false { x1 := x1, y1 := y1, x2 := x2, y2 := y2 } base) ∧
      AssemblesTo (.flush16 x1 y1 x2 y2 base none) (.flush16 true { x1 := x1, y1 := y1, x2 := x2, y2 := y2 } base) ∧
      AssemblesTo (.flush16 x1 y1 x2 y2 base (some 1)) (.flush16 true { x1 := x1, y1 := y1, x2 := x2, y2 := y2 } base) ∧
      AssemblesTo (.flush16 x1 y1 x2 y2 base (some 0)) (.flush16 false { x1 := x1, y1 := y1, x2 := x2, y2 := y2 } base)) ∧
  (∀ v : Nib, AssemblesTo (.fill v.toNat) (.fill v)) ∧ AssemblesTo .black (.fill 0#4) ∧ AssemblesTo .white (.fill 15#4) ∧
  AssemblesTo .tpat .tpat ∧ (∀ lines fmt, lines ≤ 31 → AssemblesTo (.setup lines fmt) (.setup lines fmt)) ∧
  (∀ v, assemble (.fill v) = none ↔ 15 < v) ∧ (∀ n fmt, assemble (.setup n fmt) = none ↔ 31 < n) ∧
  (∀ x1 y1 x2 y2, assemble (.setwin x1 y1 x2 y2) = none ↔ ¬ CoordsFit x1 y1 x2 y2) ∧
  (∀ x1 y1 x2 y2, assemble (.round x1 y1 x2 y2) = none ↔ ¬ CoordsFit x1 y1 x2 y2) ∧
  (∀ x1 y1 x2 y2 base ctx, assemble (.flush8 x1 y1 x2 y2 base ctx) = none ↔
    ¬ (CoordsFit x1 y1 x2 y2 ∧ base < 2 ^ 32 ∧ (ctx = none ∨ ctx = some 0 ∨ ctx = some 1))) ∧
  (∀ x1 y1 x2 y2 base ctx, assemble (.flush16 x1 y1 x2 y2 base ctx) = none ↔
    ¬ (CoordsFit x1 y1 x2 y2 ∧ base < 2 ^ 32 ∧ (ctx = none ∨ ctx = some 0 ∨ ctx = some 1))) ∧
  assemble .black = assemble (.fill 0) ∧ assemble .white = assemble (.fill 15) ∧
  (∀ x1 y1 x2 y2 base, assemble (.flush8 x1 y1 x2 y2 base none) = assemble (.flush8 x1 y1 x2 y2 base (some 1)) ∧
    assemble (.flush16 x1 y1 x2 y2 base none) = assemble (.flush16 x1 y1 x2 y2 base (some 1)))

/-! ### Invariants and whole-machine rules -/

/-- Between steps the block is idle (10_state.md R34), RES is one of its three values (R28), STG_LINES is at most 16 (R29),
SRC is canonical and inside its range (20_memory.md R42), CFG meets 00_scope.md R8: every step keeps this. -/
def Obligations.StepKeepsInvariant : Prop :=
  ∀ (s t : State), Invariant s → step s = .next t → Invariant t

/-- The invariant holds right after reset, for every legal configuration and so at `State.reset`. -/
def Obligations.ResetMeetsInvariant : Prop :=
  (∀ cfg : Config, cfg.Valid → Invariant (State.resetWith cfg)) ∧ Invariant State.reset

/-- 10_state.md R33: no operation and no port changes CFG. -/
def Obligations.ConfigurationNeverChanges : Prop :=
  ∀ (s t : State), step s = .next t → t.cfg = s.cfg

/-- 41_pixel_pipeline.md R114: an issued descriptor with a flush's code produces exactly one `Ack`, its last event, unless
it ends in a SrcFault; every other one produces none; without a context or for a degenerate rectangle nothing else. -/
def Obligations.OneAckPerFlushDescriptor : Prop :=
  ∀ (s : State) d ms, s.cfg.Valid → s.busy = false → s.host = .issue d :: ms →
    (d.extractLsb' 0 8 = 0x04#8 ∨ d.extractLsb' 0 8 = 0x05#8 →
      (∃ f, step s = .fault f) ∨ ∃ t es, step s = .next t ∧ t.trace = s.trace ++ es ++ [.ack] ∧ acks es = 0) ∧
    (d.extractLsb' 0 8 ≠ 0x04#8 → d.extractLsb' 0 8 ≠ 0x05#8 →
      ∃ t es, step s = .next t ∧ t.trace = s.trace ++ es ∧ acks es = 0) ∧
    (∀ fmt ctx r base, decode d = .ok (flushOp fmt ctx r base) → ctx = false ∨ Degenerate r →
      ∃ t, step s = .next t ∧ t.trace = s.trace ++ [.ack])

/-- 00_scope.md R13, 20_memory.md R52: only issuing a descriptor emits events, and they go at the end of the trace; only
`rst` empties it. -/
def Obligations.OnlyIssueEmitsEvents : Prop :=
  ∀ (s t : State), step s = .next t →
    (∀ m ms, s.host = m :: ms → (∀ d, m ≠ .issue d) → m ≠ .rst → t.trace = s.trace) ∧
    (∀ d ms, s.host = .issue d :: ms → s.trace <+: t.trace) ∧ (s.host = [] → t.trace = s.trace)

/-- 10_state.md R26, R27, R29, 20_memory.md R40: RX1..RY2 are written only by ROUND (and reset by `rst`), STG_LINES and
STG_FMT only by SETUP (and `rst`), DL only at issue (and `rst`), SRC only by the host's write. -/
def Obligations.EachRegisterHasOneWriter : Prop :=
  ∀ (s t : State), step s = .next t →
    (¬ SameRect s t → (∃ ms, s.host = .rst :: ms) ∨ ∃ d ms r, s.host = .issue d :: ms ∧ decode d = .ok (.round r)) ∧
    (¬ SameStaging s t →
      (∃ ms, s.host = .rst :: ms) ∨ ∃ d ms lines fmt, s.host = .issue d :: ms ∧ decode d = .ok (.setup lines fmt)) ∧
    (t.dl ≠ s.dl → (∃ ms, s.host = .rst :: ms) ∨ ∃ d ms, s.host = .issue d :: ms ∧ t.dl = d) ∧
    (∀ a, Memory.read t.src a ≠ Memory.read s.src a →
      ∃ v ms, s.host = .writeSrc a v :: ms ∧ Memory.read t.src a = some v)

/-! ### Geometry -/

/-- 40_addressing.md R80 (the spec's decision D34): a rectangle is degenerate by the six comparisons, that is, exactly when it holds no pixel of the
panel. -/
def Obligations.DegenerateMeansNoPanelPixel : Prop :=
  ∀ r : Rect,
    (Degenerate r ↔ r.x1 > r.x2 ∨ r.y1 > r.y2 ∨ r.x2 < 0 ∨ r.x1 > 256 - 1 ∨ r.y2 < 0 ∨ r.y1 > 64 - 1) ∧
    (Degenerate r ↔ ¬ ∃ x y : Int, 0 ≤ x ∧ x ≤ 255 ∧ 0 ≤ y ∧ y ≤ 63 ∧ r.x1 ≤ x ∧ x ≤ r.x2 ∧ r.y1 ≤ y ∧ y ≤ r.y2)

/-- 40_addressing.md R81: CLAMPX and CLAMPY are the clamps into the panel; for a rectangle that is not degenerate the clamped
rectangle is its intersection with the panel and is not empty. -/
def Obligations.ClampedRectangleIsIntersection : Prop :=
  (∀ v : Int, (clampX v : Int) = max 0 (min v 255) ∧ (clampY v : Int) = max 0 (min v 63)) ∧
  ∀ r : Rect, ¬ Degenerate r →
    (clampX r.x1 : Int) = max r.x1 0 ∧ (clampX r.x2 : Int) = min r.x2 255 ∧ clampX r.x1 ≤ clampX r.x2 ∧
    (clampY r.y1 : Int) = max r.y1 0 ∧ (clampY r.y2 : Int) = min r.y2 63 ∧ clampY r.y1 ≤ clampY r.y2 ∧
    ∀ x y : Nat, (clampX r.x1 ≤ x ∧ x ≤ clampX r.x2 ∧ clampY r.y1 ≤ y ∧ y ≤ clampY r.y2) ↔
      (x ≤ 255 ∧ y ≤ 63 ∧ r.x1 ≤ x ∧ (x : Int) ≤ r.x2 ∧ r.y1 ≤ y ∧ (y : Int) ≤ r.y2)

/-- 40_addressing.md R82: ALO is the largest multiple of Q not above x, AHI the last pixel of its unit, both inside the
panel, even and odd; the aligned width is a positive multiple of Q, hence even. -/
def Obligations.AlignmentExpandsOutward : Prop :=
  ∀ (cfg : Config) (x : Nat), cfg.Valid → x ≤ 255 →
    alo cfg x = cfg.q * (x / cfg.q) ∧ ahi cfg x = cfg.q * (x / cfg.q) + cfg.q - 1 ∧
    cfg.q ∣ alo cfg x ∧ (∀ k, cfg.q ∣ k → k ≤ x → k ≤ alo cfg x) ∧ alo cfg x ≤ x ∧ x ≤ ahi cfg x ∧ ahi cfg x ≤ 255 ∧
    alo cfg x % 2 = 0 ∧ ahi cfg x % 2 = 1 ∧
    ∀ x2, x ≤ x2 → x2 ≤ 255 → alo cfg x < ahi cfg x2 + 1 ∧ cfg.q ∣ ahi cfg x2 + 1 - alo cfg x ∧ 2 ∣ ahi cfg x2 + 1 - alo cfg x

/-- 40_addressing.md R83, R84: the column address unit is x div Q plus the offset, the same for every pixel of a quantum
unit, and fits one byte; the row address unit is y and fits one byte. -/
def Obligations.AddressUnitsFitOneByte : Prop :=
  (∀ (cfg : Config) (x : Nat), cfg.Valid → x ≤ 255 →
    colUnit cfg x = x / cfg.q + cfg.colOff ∧ colUnit cfg (alo cfg x) = colUnit cfg x ∧
    colUnit cfg (ahi cfg x) = colUnit cfg x ∧ cfg.colOff ≤ colUnit cfg x ∧
    colUnit cfg x ≤ cfg.colOff + (256 - 1) / cfg.q ∧ cfg.colOff + (256 - 1) / cfg.q ≤ 255) ∧
  (∀ cfg : Config, cfg.q = 4 → colUnit cfg 255 = 63 + cfg.colOff) ∧
  (∀ y : Nat, y ≤ 63 → rowUnit y = y ∧ rowUnit y ≤ 63)

/-- 40_addressing.md R85: WINDOW emits exactly the column command and then the row command, each with a start and an end
byte that are the address units themselves. -/
def Obligations.WindowDeclaresColumnsThenRows : Prop :=
  ∀ (cfg : Config) (cx1 cy1 cx2 cy2 : Nat), cfg.Valid → cx1 ≤ cx2 → cx2 ≤ 255 → cy1 ≤ cy2 → cy2 ≤ 63 →
    ∃ cs ce ys ye : Byte,
      window cfg cx1 cy1 cx2 cy2 = [.cmd cfg.opcSetCol [cs, ce], .cmd cfg.opcSetRow [ys, ye]] ∧
      cs.toNat = cx1 / cfg.q + cfg.colOff ∧ ce.toNat = cx2 / cfg.q + cfg.colOff ∧ ys.toNat = cy1 ∧ ye.toNat = cy2

/-- 40_addressing.md R86: the pixel range the column parameters stand for is [ALO(cx1), AHI(cx2)], covers the request, and
every quantum unit in it meets the request. -/
def Obligations.WindowCoversAndIsMinimal : Prop :=
  ∀ (cfg : Config) (cx1 cx2 : Nat), cfg.Valid → cx1 ≤ cx2 → cx2 ≤ 255 →
    (colUnit cfg cx1 - cfg.colOff) * cfg.q = alo cfg cx1 ∧ (colUnit cfg cx2 - cfg.colOff + 1) * cfg.q - 1 = ahi cfg cx2 ∧
    alo cfg cx1 ≤ cx1 ∧ cx2 ≤ ahi cfg cx2 ∧
    ∀ u, colUnit cfg cx1 ≤ u → u ≤ colUnit cfg cx2 →
      ∃ x, cx1 ≤ x ∧ x ≤ cx2 ∧ (u - cfg.colOff) * cfg.q ≤ x ∧ x ≤ (u - cfg.colOff + 1) * cfg.q - 1

/-! ### Pixels -/

/-- 41_pixel_pipeline.md R101: CONV8 is the high nibble, the byte shifted right by 4. -/
def Obligations.GrayPixelIsHighNibble : Prop :=
  ∀ b : Byte, (conv8 b).toNat = b.toNat >>> 4

/-- 41_pixel_pipeline.md R102: EXPAND5 and EXPAND6 by their formulas; both strictly increasing, 0 to 0 and the largest value
to 255. -/
def Obligations.ChannelExpansionReplicatesBits : Prop :=
  (∀ c : BitVec 5, (expand5 c).toNat = (c.toNat <<< 3) ||| (c.toNat >>> 2)) ∧
  (∀ c : BitVec 6, (expand6 c).toNat = (c.toNat <<< 2) ||| (c.toNat >>> 4)) ∧
  (∀ c d : BitVec 5, c.toNat < d.toNat → (expand5 c).toNat < (expand5 d).toNat) ∧
  (∀ c d : BitVec 6, c.toNat < d.toNat → (expand6 c).toNat < (expand6 d).toNat) ∧
  expand5 0#5 = 0#8 ∧ expand6 0#6 = 0#8 ∧ expand5 31#5 = 255#8 ∧ expand6 63#6 = 255#8 ∧
  expand5 1#5 = 8#8 ∧ expand5 16#5 = 132#8 ∧ expand5 15#5 = 123#8 ∧
  expand6 1#6 = 4#8 ∧ expand6 32#6 = 130#8 ∧ expand6 31#6 = 125#8

/-- 41_pixel_pipeline.md R106: PACK puts the left pixel in the high nibble; UNPACK and PACK undo each other. -/
def Obligations.PackUnpackRoundTrip : Prop :=
  (∀ a b : Nib, (pack a b).toNat = (a.toNat <<< 4) ||| b.toNat ∧ unpack (pack a b) = (a, b)) ∧
  (∀ v : Byte, (unpack v).1.toNat = v.toNat >>> 4 ∧ (unpack v).2.toNat = v.toNat &&& 15 ∧
    pack (unpack v).1 (unpack v).2 = v) ∧
  pack 5#4 5#4 = 0x55#8 ∧ pack 0#4 15#4 = 0x0F#8 ∧ pack 15#4 0#4 = 0xF0#8

/-- 41_pixel_pipeline.md R103: LUMA by its formula; for every legal configuration the sum fits 16 bits and the luma fits 8. -/
def Obligations.LumaFitsEightBits : Prop :=
  ∀ (cfg : Config) (r8 g8 b8 : Byte),
    luma cfg r8 g8 b8 = (cfg.wr * r8.toNat + cfg.wg * g8.toNat + cfg.wb * b8.toNat) >>> 8 ∧
    (cfg.Valid → cfg.wr * r8.toNat + cfg.wg * g8.toNat + cfg.wb * b8.toNat ≤ 255 * (cfg.wr + cfg.wg + cfg.wb) ∧
      cfg.wr * r8.toNat + cfg.wg * g8.toNat + cfg.wb * b8.toNat ≤ 65280 ∧ luma cfg r8 g8 b8 ≤ 255)

/-- 41_pixel_pipeline.md R104: CONV16 is bits 7..4 of the luma of the expanded channels, nothing lost, for every legal
configuration; the worked values of CFG_REF (an example configuration whose weights are PRESUMED, log 2); white reaches 15 exactly when the weights make its luma at least 240. -/
def Obligations.ColorPixelIsTopOfLuma : Prop :=
  (∀ (cfg : Config) (p : Pixel16), cfg.Valid →
    ∃ (r5 b5 : BitVec 5) (g6 : BitVec 6), p.toNat = r5.toNat * 2048 + g6.toNat * 32 + b5.toNat ∧
      (conv16 cfg p).toNat = luma cfg (expand5 r5) (expand6 g6) (expand5 b5) >>> 4) ∧
  conv16 Config.ref 0x0000#16 = 0#4 ∧ conv16 Config.ref 0xFFFF#16 = 15#4 ∧ conv16 Config.ref 0xF800#16 = 4#4 ∧
  conv16 Config.ref 0x07E0#16 = 9#4 ∧ conv16 Config.ref 0x001F#16 = 1#4 ∧ conv16 Config.ref 0x8410#16 = 8#4 ∧
  (∀ cfg : Config, cfg.Valid →
    (conv16 cfg 0xFFFF#16 = 15#4 ↔ 240 ≤ (255 * (cfg.wr + cfg.wg + cfg.wb)) >>> 8))

/-- 41_pixel_pipeline.md R105: for every legal configuration, raising R, G or B while the others stay never lowers the 4-bit
value; CONV8 is non-decreasing likewise. -/
def Obligations.ConversionIsMonotone : Prop :=
  (∀ (cfg : Config) (p q : Pixel16), cfg.Valid → (pixelR p).toNat ≤ (pixelR q).toNat → (pixelG p).toNat ≤ (pixelG q).toNat →
    (pixelB p).toNat ≤ (pixelB q).toNat → (conv16 cfg p).toNat ≤ (conv16 cfg q).toNat) ∧
  (∀ b c : Byte, b.toNat ≤ c.toNat → (conv8 b).toNat ≤ (conv8 c).toNat)

/-- 20_memory.md R44: the 16-bit pixel of two bytes in either byte order, and its three fields. -/
def Obligations.ColorPixelBytesAndFields : Prop :=
  (∀ (cfg : Config) (m0 m1 : Byte),
    (cfg.src16BE = false → (pixelOfBytes cfg m0 m1).toNat = m0.toNat + 256 * m1.toNat) ∧
    (cfg.src16BE = true → (pixelOfBytes cfg m0 m1).toNat = m1.toNat + 256 * m0.toNat)) ∧
  (∀ p : Pixel16, (pixelR p).toNat = p.toNat / 2048 ∧ (pixelG p).toNat = p.toNat / 32 % 64 ∧
    (pixelB p).toNat = p.toNat % 32)

/-- 41_pixel_pipeline.md R107, 20_memory.md R47: SAMPLE is 0 outside the clamped x-bounds; inside them it reads the pixel at
BASE + bpp * k, which is not negative; a pixel that reaches past STAGE_BYTES - 1, or a byte never written, is a SrcFault. Which
address the fault of an unwritten byte names is the model's choice (log 10). -/
def Obligations.SampleFollowsSourceLayout : Prop :=
  ∀ (cfg : Config) (m : Memory) (fmt : Fmt) (r : Rect) (base x y : Nat), ¬ Degenerate r → clampY r.y1 ≤ y → y ≤ clampY r.y2 →
    (x < clampX r.x1 ∨ clampX r.x2 < x → sample cfg m fmt r base x y = .ok 0#4) ∧
    (clampX r.x1 ≤ x → x ≤ clampX r.x2 → ∃ a : Nat,
      (a : Int) = (base : Int) + (bpp fmt : Int) * (((y : Int) - r.y1) * (r.x2 - r.x1 + 1) + ((x : Int) - r.x1)) ∧
      (cfg.stageBytes < a + bpp fmt → sample cfg m fmt r base x y = .error (.srcUnmapped a)) ∧
      (a + bpp fmt ≤ cfg.stageBytes →
        (∀ n, sample cfg m fmt r base x y = .ok n ↔ SourcePixel cfg m a n fmt) ∧
        (Memory.read m a = none → sample cfg m fmt r base x y = .error (.srcUnwritten a)) ∧
        ((Memory.read m a).isSome = true → fmt = .rgb565 → Memory.read m (a + 1) = none →
          sample cfg m fmt r base x y = .error (.srcUnwritten (a + 1)))))

/-- 41_pixel_pipeline.md R108, 20_memory.md R48: STREAM is the optional RAM-write command and then one `Data` per row, top to
bottom; byte i of a row is PACK of the pixels ax1 + 2i (high nibble) and ax1 + 2i + 1. -/
def Obligations.StreamPacksRowsInRasterOrder : Prop :=
  ∀ (cfg : Config) (ax1 cy1 ax2 cy2 : Nat) (px : Nat → Nat → Nib), cfg.Valid → cfg.q ∣ ax1 → cfg.q ∣ ax2 + 1 → ax1 < ax2 →
    ax2 ≤ 255 → cy1 ≤ cy2 → cy2 ≤ 63 →
    ∃ rows : List (List Byte), stream cfg ax1 cy1 ax2 cy2 px = optionalRamWrite cfg ++ rows.map .data ∧
      rows.length = cy2 - cy1 + 1 ∧
      ∀ j row, rows[j]? = some row → 2 * row.length = ax2 - ax1 + 1 ∧
        ∀ i b, row[i]? = some b →
          b.toNat = 16 * (px (ax1 + 2 * i) (cy1 + j)).toNat + (px (ax1 + 2 * i + 1) (cy1 + j)).toNat

/-! ### What each operation does -/

/-- 40_addressing.md R88: SETWIN answers a next state with RES = 0x00; no event for a degenerate rectangle, else exactly the
column and the row command of the clamped rectangle; no other register is written and SRC is as before. -/
def Obligations.SetwinResult : Prop :=
  ∀ (r : Rect) (s : State), s.cfg.Valid →
    ∃ t, exec (.setwin r) s = .next t ∧ t.res = 0x00#8 ∧ t.busy = false ∧
      SameRect s t ∧ SameStaging s t ∧ SameSurroundings s t ∧ SameSrc s t ∧
      (Degenerate r → t.trace = s.trace) ∧
      (¬ Degenerate r → ∃ cs ce ys ye : Byte,
        t.trace = s.trace ++ [.cmd s.cfg.opcSetCol [cs, ce], .cmd s.cfg.opcSetRow [ys, ye]] ∧
        (cs.toNat : Int) = max r.x1 0 / (s.cfg.q : Int) + s.cfg.colOff ∧
        (ce.toNat : Int) = min r.x2 255 / (s.cfg.q : Int) + s.cfg.colOff ∧
        (ys.toNat : Int) = max r.y1 0 ∧ (ye.toNat : Int) = min r.y2 63)

/-- 41_pixel_pipeline.md R109 (the spec's decision D21): FILL answers a next state with RES = 0x00 whose trace grew by the full window, the optional
RAM-write command, and 64 rows of 128 bytes, each byte 17 * V; no other register is written. -/
def Obligations.FillResult : Prop :=
  ∀ (v : Nib) (s : State), s.cfg.Valid →
    ∃ t, exec (.fill v) s = .next t ∧ t.res = 0x00#8 ∧ t.busy = false ∧
      SameRect s t ∧ SameStaging s t ∧ SameSurroundings s t ∧ SameSrc s t ∧
      ∃ cs ce b : Byte, cs.toNat = s.cfg.colOff ∧ ce.toNat = s.cfg.colOff + 255 / s.cfg.q ∧ b.toNat = 17 * v.toNat ∧
        t.trace = s.trace ++ ([.cmd s.cfg.opcSetCol [cs, ce], .cmd s.cfg.opcSetRow [0x00#8, 0x3F#8]] ++
          optionalRamWrite s.cfg ++ List.replicate 64 (.data (List.replicate 128 b)))

/-- 41_pixel_pipeline.md R110: TPAT answers a next state with RES = 0x00 whose trace grew as FILL's, byte i of row y being
PACK of TESTPAT(2i, y) and TESTPAT(2i + 1, y), whatever TESTPAT is; no other register is written. -/
def Obligations.TpatResult : Prop :=
  ∀ s : State, s.cfg.Valid →
    ∃ t, exec .tpat s = .next t ∧ t.res = 0x00#8 ∧ t.busy = false ∧
      SameRect s t ∧ SameStaging s t ∧ SameSurroundings s t ∧ SameSrc s t ∧
      ∃ (cs ce : Byte) (rows : List (List Byte)), cs.toNat = s.cfg.colOff ∧ ce.toNat = s.cfg.colOff + 255 / s.cfg.q ∧
        t.trace = s.trace ++ ([.cmd s.cfg.opcSetCol [cs, ce], .cmd s.cfg.opcSetRow [0x00#8, 0x3F#8]] ++
          optionalRamWrite s.cfg ++ rows.map .data) ∧
        rows.length = 64 ∧
        ∀ y row, rows[y]? = some row → row.length = 128 ∧
          ∀ i b, row[i]? = some b →
            b.toNat = 16 * (Config.testPat (2 * i) y).toNat + (Config.testPat (2 * i + 1) y).toNat

/-- 60_exceptions.md R144 (the spec's decision D18): a flush without its context emits one `Ack` and nothing else, RES = 0x00, whatever its rectangle
and BASE and whatever SRC holds. -/
def Obligations.FlushWithoutContextOnlyAcks : Prop :=
  ∀ fmt r base (s : State), ∃ t, exec (flushOp fmt false r base) s = .next t ∧ t.trace = s.trace ++ [.ack] ∧ t.res = 0x00#8 ∧
    t.busy = false ∧ SameSrc s t

/-- 60_exceptions.md R143: for a degenerate rectangle SETWIN emits nothing and the flushes emit `Ack` and nothing else; RES is
0x00 as for a completed operation. -/
def Obligations.DegenerateRequestsAreSilent : Prop :=
  ∀ r (s : State), Degenerate r →
    (∃ t, exec (.setwin r) s = .next t ∧ t.trace = s.trace ∧ t.res = 0x00#8) ∧
    (∀ fmt ctx base, ∃ t, exec (flushOp fmt ctx r base) s = .next t ∧ t.trace = s.trace ++ [.ack] ∧ t.res = 0x00#8)

/-- 41_pixel_pipeline.md R111, R112, R115: a flush with its context, a rectangle that meets the panel and a readable source
answers a next state: the window of the aligned rectangle, the optional RAM-write command, the packed rows of the converted
pixels with black margins, one `Ack`, RES = 0x00. -/
def Obligations.FlushStreamsConvertedPixels : Prop :=
  ∀ fmt r base (s : State), s.cfg.Valid → ¬ Degenerate r → SourceReady s fmt r base →
    ∃ t, exec (flushOp fmt true r base) s = .next t ∧ t.res = 0x00#8 ∧ t.busy = false ∧
      ∃ (cs ce ys ye : Byte) (rows : List (List Byte)),
        t.trace = s.trace ++ ([.cmd s.cfg.opcSetCol [cs, ce], .cmd s.cfg.opcSetRow [ys, ye]] ++
          optionalRamWrite s.cfg ++ rows.map .data ++ [.ack]) ∧
        cs.toNat = clampX r.x1 / s.cfg.q + s.cfg.colOff ∧ ce.toNat = clampX r.x2 / s.cfg.q + s.cfg.colOff ∧
        ys.toNat = clampY r.y1 ∧ ye.toNat = clampY r.y2 ∧ rows.length = clampY r.y2 - clampY r.y1 + 1 ∧
        ∀ j row, rows[j]? = some row →
          2 * row.length = ahi s.cfg (clampX r.x2) + 1 - alo s.cfg (clampX r.x1) ∧
          ∀ i b, row[i]? = some b → ∃ n m : Nib, b.toNat = 16 * n.toNat + m.toNat ∧
            SampleIs s fmt r base (alo s.cfg (clampX r.x1) + 2 * i) (clampY r.y1 + j) n ∧
            SampleIs s fmt r base (alo s.cfg (clampX r.x1) + 2 * i + 1) (clampY r.y1 + j) m

/-- 60_exceptions.md R146: a flush that samples faults exactly when some sampled pixel reaches outside SRC or holds a byte
never written. That the fault names an address, and which, is the model's choice (log 10): the address of a sampled pixel that
reaches outside SRC, or of an unwritten byte of a sampled pixel. -/
def Obligations.FlushFaultsExactlyWhenSourceNotReady : Prop :=
  ∀ fmt r base (s : State), s.cfg.Valid → ¬ Degenerate r →
    ((∃ f, exec (flushOp fmt true r base) s = .fault f) ↔ ¬ SourceReady s fmt r base) ∧
    (∀ a, exec (flushOp fmt true r base) s = .fault (.srcUnmapped a) → s.cfg.stageBytes < a + bpp fmt ∧
      ∃ x y, clampX r.x1 ≤ x ∧ x ≤ clampX r.x2 ∧ clampY r.y1 ≤ y ∧ y ≤ clampY r.y2 ∧ a = pixelAddr fmt r base x y) ∧
    (∀ a, exec (flushOp fmt true r base) s = .fault (.srcUnwritten a) → a < s.cfg.stageBytes ∧ Memory.read s.src a = none ∧
      ∃ x y k, clampX r.x1 ≤ x ∧ x ≤ clampX r.x2 ∧ clampY r.y1 ≤ y ∧ y ≤ clampY r.y2 ∧ k < bpp fmt ∧
        a = pixelAddr fmt r base x y + k)

/-- 41_pixel_pipeline.md R115, last sentence: with every byte of SRC written, a flush faults exactly when the largest sampled
address is past STAGE_BYTES - 1. -/
def Obligations.LargestSampledAddressDecides : Prop :=
  ∀ fmt r base (s : State), s.cfg.Valid → ¬ Degenerate r → (∀ a, a < s.cfg.stageBytes → (Memory.read s.src a).isSome = true) →
    ((∃ f, exec (flushOp fmt true r base) s = .fault f) ↔
      (s.cfg.stageBytes : Int) - 1 < (base : Int) + (bpp fmt : Int) * (((clampY r.y2 : Int) - r.y1) * (r.x2 - r.x1 + 1) +
        ((clampX r.x2 : Int) - r.x1)) + (bpp fmt : Int) - 1)

/-- 70_reset_and_hazards.md R168, R174: a flush whose source region lies inside SRC and has been written never faults. -/
def Obligations.RegionInsideSrcNeverFaults : Prop :=
  ∀ fmt ctx r base (s : State), s.cfg.Valid → RegionInside s.cfg fmt r base → RegionWritten s.src fmt r base →
    ∃ t, exec (flushOp fmt ctx r base) s = .next t

/-- 42_integration.md R130: ROUND answers a next state with RES = 0x00, no event, and the rounded rectangle in RX1..RY2, for
every rectangle a descriptor can express; no other register is written. -/
def Obligations.RoundResult : Prop :=
  ∀ (r : Rect) (s : State), r.wellFormed = true →
    ∃ t, exec (.round r) s = .next t ∧ t.rx1.toInt = max 0 (2 * Int.fdiv r.x1 2) ∧
      t.rx2.toInt = min (256 - 1) (2 * Int.fdiv r.x2 2 + 1) ∧ t.ry1.toInt = r.y1 ∧ t.ry2.toInt = r.y2 ∧
      t.res = 0x00#8 ∧ t.trace = s.trace ∧ t.busy = false ∧ SameStaging s t ∧ SameSurroundings s t ∧ SameSrc s t

/-- 70_reset_and_hazards.md R173, fifth row (the bit that remembers a completed ROUND is DEDUCED, log 20): once a ROUND has
completed, the host's read answers the four registers. -/
def Obligations.HostReadsRoundedRectangle : Prop :=
  ∀ (r : Rect) (s t : State) ms, s.cfg.Valid → exec (.round r) s = .next t →
    step { t with host := .readRect :: ms } =
      .next { t with host := ms, replies := t.replies ++ [.value (.rect t.rx1 t.ry1 t.rx2 t.ry2)] }

/-- 42_integration.md R131: for in-panel input the rounded x-bounds are even and odd, widen by at most 1, stay in the panel;
with Q = 2 they are aligned; rounding its own result changes nothing. -/
def Obligations.RoundAlignsPixelPairs : Prop :=
  ∀ (r : Rect) (s t : State), r.wellFormed = true → exec (.round r) s = .next t → 0 ≤ r.x1 → r.x1 ≤ r.x2 → r.x2 ≤ 255 →
    t.rx1.toInt % 2 = 0 ∧ t.rx2.toInt % 2 = 1 ∧ 0 ≤ t.rx1.toInt ∧ t.rx1.toInt ≤ r.x1 ∧ r.x2 ≤ t.rx2.toInt ∧
    t.rx2.toInt ≤ 255 ∧ r.x1 - t.rx1.toInt ≤ 1 ∧ t.rx2.toInt - r.x2 ≤ 1 ∧ (t.rx2.toInt - t.rx1.toInt + 1) % 2 = 0 ∧
    (∀ cfg : Config, cfg.q = 2 → alo cfg t.rx1.toNat = t.rx1.toNat ∧ ahi cfg t.rx2.toNat = t.rx2.toNat) ∧
    ∃ u, exec (.round { x1 := t.rx1.toInt, y1 := t.ry1.toInt, x2 := t.rx2.toInt, y2 := t.ry2.toInt }) t = .next u ∧
      u.rx1 = t.rx1 ∧ u.ry1 = t.ry1 ∧ u.rx2 = t.rx2 ∧ u.ry2 = t.ry2

/-- 42_integration.md R132: SETUP answers a next state; it records LINES and FMT with RES = 0x00 exactly when LINES is 1 to 16
and W * LINES * bpp bytes fit, else RES = 0x01 and the staging registers stay; no other register is written. -/
def Obligations.SetupResult : Prop :=
  ∀ (lines : Nat) (fmt : Fmt) (s : State),
    ∃ t, exec (.setup lines fmt) s = .next t ∧ t.busy = false ∧ t.trace = s.trace ∧
      SameRect s t ∧ SameSurroundings s t ∧ SameSrc s t ∧
      (1 ≤ lines ∧ lines ≤ 16 ∧ 256 * lines * bpp fmt ≤ s.cfg.stageBytes →
        t.stgLines.toNat = lines ∧ t.stgFmt = fmt ∧ t.res = 0x00#8) ∧
      (¬ (1 ≤ lines ∧ lines ≤ 16 ∧ 256 * lines * bpp fmt ≤ s.cfg.stageBytes) → SameStaging s t ∧ t.res = 0x01#8)

/-- 42_integration.md R132, R133: with STAGE_BYTES = W * MAX_LINES * 2 = 8192, SETUP is refused exactly for 0 lines or more
than 16, in either format. -/
def Obligations.FullCapacityAcceptsEveryLineCount : Prop :=
  ∀ (lines : Nat) (fmt : Fmt) (s t : State), s.cfg.stageBytes = 256 * 16 * 2 → exec (.setup lines fmt) s = .next t →
    (t.res = 0x01#8 ↔ lines = 0 ∨ 16 < lines) ∧ (t.res = 0x00#8 ↔ 1 ≤ lines ∧ lines ≤ 16)

/-! ### Frames -/

/-- What SETWIN, FILL, TPAT, FLUSH8 and FLUSH16 leave: RX1..RY2, STG_LINES, STG_FMT, DL, CFG, the host's lists and every byte
of SRC (40_addressing.md R88, 41_pixel_pipeline.md R109 to R112: "Registers written: RES"). BUSY and RES are the completion's;
ROWCNT, COLCNT and NIBHOLD are unspecified after it (10_state.md R31). None of them stores to memory (42_integration.md
R135). -/
def Obligations.BusOperationsFrame : Prop :=
  ∀ (s t : State),
    (∀ r, exec (.setwin r) s = .next t → SameRect s t ∧ SameStaging s t ∧ SameSurroundings s t ∧ SameSrc s t) ∧
    (∀ v, exec (.fill v) s = .next t → SameRect s t ∧ SameStaging s t ∧ SameSurroundings s t ∧ SameSrc s t) ∧
    (exec .tpat s = .next t → SameRect s t ∧ SameStaging s t ∧ SameSurroundings s t ∧ SameSrc s t) ∧
    (∀ ctx r base, exec (.flush8 ctx r base) s = .next t →
      SameRect s t ∧ SameStaging s t ∧ SameSurroundings s t ∧ SameSrc s t) ∧
    (∀ ctx r base, exec (.flush16 ctx r base) s = .next t →
      SameRect s t ∧ SameStaging s t ∧ SameSurroundings s t ∧ SameSrc s t)

/-- What ROUND and SETUP leave: ROUND all but RX1..RY2, RES and the completion's BUSY and sequencer; SETUP all but STG_LINES,
STG_FMT, RES and the completion's (42_integration.md R130, R132). Neither emits an event or stores to memory. -/
def Obligations.ConfigurationOperationsFrame : Prop :=
  ∀ (s t : State),
    (∀ r, exec (.round r) s = .next t → SameStaging s t ∧ SameSurroundings s t ∧ SameSrc s t ∧ t.trace = s.trace) ∧
    (∀ lines fmt, exec (.setup lines fmt) s = .next t →
      SameRect s t ∧ SameSurroundings s t ∧ SameSrc s t ∧ t.trace = s.trace)

/-! ### Laws of the output -/

/-- 41_pixel_pipeline.md R113: the number of `Data` events is the clamped height, every payload is the aligned width / 2, the
total is NBYTES; the controller (the model's observer, log 14), whatever its window was before, ends with exactly the bytes its
declared window holds. -/
def Obligations.DataCountsMatchDeclaredWindow : Prop :=
  ∀ (s t : State), s.cfg.Valid →
    (∀ fmt r base, ¬ Degenerate r → exec (flushOp fmt true r base) s = .next t →
      ∃ es, t.trace = s.trace ++ es ∧ (payloads es).length = clampY r.y2 - clampY r.y1 + 1 ∧
        (∀ p, p ∈ payloads es → p.length = (ahi s.cfg (clampX r.x2) + 1 - alo s.cfg (clampX r.x1)) / 2) ∧
        (dataBytes es).length = (ahi s.cfg (clampX r.x2) + 1 - alo s.cfg (clampX r.x1)) / 2 * (clampY r.y2 - clampY r.y1 + 1) ∧
        ∀ c : Controller, (c.acceptAll s.cfg es).window.received.length = (c.acceptAll s.cfg es).window.expected s.cfg) ∧
    (∀ i, i = .tpat ∨ (∃ v, i = .fill v) → exec i s = .next t →
      ∃ es, t.trace = s.trace ++ es ∧ (payloads es).length = 64 ∧ (∀ p, p ∈ payloads es → p.length = 128) ∧
        (dataBytes es).length = 8192 ∧
        ∀ c : Controller, (c.acceptAll s.cfg es).window.received.length = (c.acceptAll s.cfg es).window.expected s.cfg)

/-- 41_pixel_pipeline.md R116 (under the pointer order of 93_implementation_defined.md U17, the model's PRESUMED observer, log
14): after a flush the controller's RAM holds, at every position of the aligned rectangle, the converted source pixel or the
black margin, and at every other position what it held before, whatever that was. -/
def Obligations.PanelShowsSamples : Prop :=
  ∀ fmt r base (s t : State) (c : Controller), s.cfg.Valid → ¬ Degenerate r → exec (flushOp fmt true r base) s = .next t →
    ∃ es, t.trace = s.trace ++ es ∧ ∀ x y : Nat,
      (alo s.cfg (clampX r.x1) ≤ x ∧ x ≤ ahi s.cfg (clampX r.x2) ∧ clampY r.y1 ≤ y ∧ y ≤ clampY r.y2 →
        ∃ n, (c.acceptAll s.cfg es).pixel s.cfg x y = some n ∧ SampleIs s fmt r base x y n) ∧
      (¬ (alo s.cfg (clampX r.x1) ≤ x ∧ x ≤ ahi s.cfg (clampX r.x2) ∧ clampY r.y1 ≤ y ∧ y ≤ clampY r.y2) →
        (c.acceptAll s.cfg es).pixel s.cfg x y = c.pixel s.cfg x y)

/-- 20_memory.md R51, 42_integration.md R135: bytes of SRC that a flush does not sample influence nothing of it, and no byte
of SRC influences any other operation. -/
def Obligations.UnsampledSourceBytesAreInvisible : Prop :=
  (∀ fmt ctx r base (s : State) (m : Memory),
    (∀ x y k, clampX r.x1 ≤ x → x ≤ clampX r.x2 → clampY r.y1 ≤ y → y ≤ clampY r.y2 → k < bpp fmt →
      Memory.read m (pixelAddr fmt r base x y + k) = Memory.read s.src (pixelAddr fmt r base x y + k)) →
    (∀ t, exec (flushOp fmt ctx r base) s = .next t →
      exec (flushOp fmt ctx r base) { s with src := m } = .next { t with src := m }) ∧
    (∀ f, exec (flushOp fmt ctx r base) s = .fault f → exec (flushOp fmt ctx r base) { s with src := m } = .fault f)) ∧
  (∀ i (s t : State) (m : Memory), (∀ fmt ctx r base, i ≠ flushOp fmt ctx r base) → exec i s = .next t →
    exec i { s with src := m } = .next { t with src := m })

/-- 10_state.md R29, R32: no operation reads RES, RX1..RY2, STG_LINES or STG_FMT: with other values in them it emits the same
events, ends with the same result code, or faults alike. -/
def Obligations.ResultRegistersInfluenceNothing : Prop :=
  ∀ i (s : State) res rx1 ry1 rx2 ry2 done lines fmt,
    (∀ t, exec i s = .next t → ∃ u, exec i (withResults s res rx1 ry1 rx2 ry2 done lines fmt) = .next u ∧
      u.trace = t.trace ∧ u.res = t.res ∧ u.busy = t.busy) ∧
    (∀ f, exec i s = .fault f → exec i (withResults s res rx1 ry1 rx2 ry2 done lines fmt) = .fault f)

/-- 20_memory.md R45, R46, 70_reset_and_hazards.md R170: on the wire every transaction is exactly one chip-select bracket, its
one assert first, its one release last, around the transaction's bytes with their D/C level, and an `Ack` is nothing; so in a
whole trace every bracket is closed, no byte is shifted outside one, and the bytes shifted are the flattened stream. -/
def Obligations.EveryBracketIsReleased : Prop :=
  (∀ op ps, wire (.cmd op ps) =
    .csAssert :: .shift false op :: (ps.map fun p => WireAct.shift true p) ++ [.csRelease]) ∧
  (∀ bs, wire (.data bs) = .csAssert :: (bs.map fun b => WireAct.shift true b) ++ [.csRelease]) ∧ wire .ack = [] ∧
  (∀ e, e ≠ .ack → (wire e).count .csAssert = 1 ∧ (wire e).count .csRelease = 1 ∧ (wire e).head? = some .csAssert ∧
    (wire e).getLast? = some .csRelease) ∧
  ∀ T : List Event, bracketsClosed false (T.flatMap wire) = true ∧ shifted (T.flatMap wire) = flatBytes T

/-- 20_memory.md R46: splitting or joining `Data` transactions does not change the flattened stream; `Ack` is not in it. -/
def Obligations.FramingDoesNotChangeFlatStream : Prop :=
  ∀ (T U : List Event) (a b : List Byte),
    flatBytes (T ++ [.data a, .data b] ++ U) = flatBytes (T ++ [.data (a ++ b)] ++ U) ∧
    flatBytes (T ++ [.ack] ++ U) = flatBytes (T ++ U)

/-! ### The host's other moves -/

/-- 70_reset_and_hazards.md R173, first row: while BUSY = 0 the host's write puts the byte at its address and changes nothing
else. -/
def Obligations.HostWriteStoresOneByte : Prop :=
  ∀ (s : State) a v ms, s.cfg.Valid → s.busy = false → s.host = .writeSrc a v :: ms → a < s.cfg.stageBytes →
    ∃ t, step s = .next t ∧ Memory.read t.src a = some v ∧ (∀ b, b ≠ a → Memory.read t.src b = Memory.read s.src b) ∧
      t.busy = false ∧ t.res = s.res ∧ t.trace = s.trace ∧ SameRect s t ∧ SameStaging s t ∧ t.cfg = s.cfg ∧ t.dl = s.dl ∧
      t.host = ms ∧ t.replies = s.replies

/-- 10_state.md R22, 70_reset_and_hazards.md R173: what each read gets back, and that it changes nothing of the block. BUSY is
always available; the others while BUSY = 0, and RX1..RY2 also only once a ROUND has completed (R38; the bit that remembers it
is DEDUCED, log 20): the register's value. Where the read is not available it is answered as refused, and the port shows some
value of which nothing is said; that form, the list of answers and the counter are the model's (logs 6 and 8). -/
def Obligations.HostReadsAnswerRegisters : Prop :=
  ∀ (s : State) ms, s.cfg.Valid →
    (s.host = .readBusy :: ms → step s = .next { s with host := ms, replies := s.replies ++ [.value (.busy s.busy)] }) ∧
    (s.busy = false →
      (s.host = .readRes :: ms → step s = .next { s with host := ms, replies := s.replies ++ [.value (.res s.res)] }) ∧
      (s.host = .readStgLines :: ms → step s = .next { s with host := ms, replies := s.replies ++ [.value (.stgLines s.stgLines)] }) ∧
      (s.host = .readStgFmt :: ms → step s = .next { s with host := ms, replies := s.replies ++ [.value (.stgFmt s.stgFmt)] }) ∧
      (s.roundDone = true → s.host = .readRect :: ms →
        step s = .next { s with host := ms, replies := s.replies ++ [.value (.rect s.rx1 s.ry1 s.rx2 s.ry2)] })) ∧
    (s.busy = true →
      (s.host = .readRes :: ms →
        ∃ v n, step s = .next { s with host := ms, replies := s.replies ++ [.unavailable (.res v)], freeCtr := n }) ∧
      (s.host = .readStgLines :: ms →
        ∃ v n, step s = .next { s with host := ms, replies := s.replies ++ [.unavailable (.stgLines v)], freeCtr := n }) ∧
      (s.host = .readStgFmt :: ms →
        ∃ v n, step s = .next { s with host := ms, replies := s.replies ++ [.unavailable (.stgFmt v)], freeCtr := n }) ∧
      (s.host = .readRect :: ms →
        ∃ a b c d n, step s = .next { s with host := ms, replies := s.replies ++ [.unavailable (.rect a b c d)], freeCtr := n })) ∧
    (s.roundDone = false → s.host = .readRect :: ms →
      ∃ a b c d n, step s = .next { s with host := ms, replies := s.replies ++ [.unavailable (.rect a b c d)], freeCtr := n })

/-- The host's write outside SRC is refused by name (70_reset_and_hazards.md R173), and for a legal configuration a step stops
with a refusal for nothing but that, a write of SRC while BUSY = 1 that is not outside the source region of a flush in progress
(R165), and `rst` while BUSY = 1 (R161): no descriptor and no read stops it, and no move that R173 makes available does. That
the refusals have these names is the model's choice (log 8), and so is the region of a flush without context or with an
inverted rectangle (log 17). -/
def Obligations.UnavailableMovesAreRefused : Prop :=
  ∀ (s : State), s.cfg.Valid →
    (∀ a v ms, s.cfg.stageBytes ≤ a → s.host = .writeSrc a v :: ms → step s = .refused (.srcWriteUnmapped a)) ∧
    (∀ q, step s = .refused q →
      (∃ a v ms, s.host = .writeSrc a v :: ms ∧ s.cfg.stageBytes ≤ a ∧ q = .srcWriteUnmapped a) ∨
      (∃ a v ms, s.host = .writeSrc a v :: ms ∧ a < s.cfg.stageBytes ∧ s.busy = true ∧ q = .srcWriteRace a ∧
        ∀ fmt ctx r base, decode s.dl = .ok (flushOp fmt ctx r base) → InSourceRegion fmt r base a) ∨
      (∃ ms, s.host = .rst :: ms ∧ s.busy = true ∧ q = .resetWhileBusy)) ∧
    ∀ m ms, s.host = m :: ms → m.available s = true → ∀ q, step s ≠ .refused q

/-- 70_reset_and_hazards.md R165, R173: while a flush is in progress the host's write is refused inside its source region and
stored outside it; while any other operation is in progress it is refused. That R165's formula is also the region of a flush
without context or with an inverted rectangle is the model's choice (log 17); a state with BUSY = 1 is that of log 16. -/
def Obligations.SourceIsStableDuringFlush : Prop :=
  ∀ (s : State) a v ms, s.cfg.Valid → s.busy = true → s.host = .writeSrc a v :: ms → a < s.cfg.stageBytes →
    (∀ fmt ctx r base, decode s.dl = .ok (flushOp fmt ctx r base) →
      (InSourceRegion fmt r base a → step s = .refused (.srcWriteRace a)) ∧
      (¬ InSourceRegion fmt r base a → ∃ t, step s = .next t ∧ Memory.read t.src a = some v ∧
        (∀ b, b ≠ a → Memory.read t.src b = Memory.read s.src b) ∧ t.busy = true ∧ t.trace = s.trace)) ∧
    ((∀ fmt ctx r base, decode s.dl ≠ .ok (flushOp fmt ctx r base)) → step s = .refused (.srcWriteRace a))
end

