-- ==== Sys2Proof/Laws/Encoding.lean ====
section
/-! SUPPORT. The fields of a built descriptor, and what a field holds of its operand (spec 30_encoding.md R61, R62). -/

namespace Sys2Proof.Laws

/-- Bit `i` of a built descriptor, field by field. -/
theorem build_getLsbD (opc arg : Byte) (x1 y1 x2 y2 : Half) (base : BitVec 32) (i : Nat) :
    (Desc.build opc arg x1 y1 x2 y2 base).getLsbD i =
      if i < 8 then opc.getLsbD i else if i < 16 then arg.getLsbD (i - 8) else if i < 32 then x1.getLsbD (i - 16)
      else if i < 48 then y1.getLsbD (i - 32) else if i < 64 then x2.getLsbD (i - 48)
      else if i < 80 then y2.getLsbD (i - 64) else if i < 112 then base.getLsbD (i - 80) else false := by
  unfold Desc.build
  rw [BitVec.getLsbD_cast]
  simp only [BitVec.getLsbD_append, BitVec.getLsbD_zero]
  repeat' split
  all_goals first | rfl | (exfalso; omega)

variable (opc arg : Byte) (x1 y1 x2 y2 : Half) (base : BitVec 32)

@[simp] theorem build_opc : (Desc.build opc arg x1 y1 x2 y2 base).opc = opc := by
  unfold Desc.opc; ext i hi
  rw [BitVec.getElem_extractLsb', build_getLsbD, if_pos (by omega)]; simp [hi]

@[simp] theorem build_arg : (Desc.build opc arg x1 y1 x2 y2 base).arg = arg := by
  unfold Desc.arg; ext i hi
  rw [BitVec.getElem_extractLsb', build_getLsbD, if_neg (by omega), if_pos (by omega)]; simp [hi]

@[simp] theorem build_x1 : (Desc.build opc arg x1 y1 x2 y2 base).x1 = x1 := by
  unfold Desc.x1; ext i hi
  rw [BitVec.getElem_extractLsb', build_getLsbD, if_neg (by omega), if_neg (by omega), if_pos (by omega)]; simp [hi]

@[simp] theorem build_y1 : (Desc.build opc arg x1 y1 x2 y2 base).y1 = y1 := by
  unfold Desc.y1; ext i hi
  rw [BitVec.getElem_extractLsb', build_getLsbD, if_neg (by omega), if_neg (by omega), if_neg (by omega),
    if_pos (by omega)]; simp [hi]

@[simp] theorem build_x2 : (Desc.build opc arg x1 y1 x2 y2 base).x2 = x2 := by
  unfold Desc.x2; ext i hi
  rw [BitVec.getElem_extractLsb', build_getLsbD, if_neg (by omega), if_neg (by omega), if_neg (by omega),
    if_neg (by omega), if_pos (by omega)]; simp [hi]

@[simp] theorem build_y2 : (Desc.build opc arg x1 y1 x2 y2 base).y2 = y2 := by
  unfold Desc.y2; ext i hi
  rw [BitVec.getElem_extractLsb', build_getLsbD, if_neg (by omega), if_neg (by omega), if_neg (by omega),
    if_neg (by omega), if_neg (by omega), if_pos (by omega)]; simp [hi]

@[simp] theorem build_base : (Desc.build opc arg x1 y1 x2 y2 base).base = base := by
  unfold Desc.base; ext i hi
  rw [BitVec.getElem_extractLsb', build_getLsbD, if_neg (by omega), if_neg (by omega), if_neg (by omega),
    if_neg (by omega), if_neg (by omega), if_neg (by omega), if_pos (by omega)]; simp [hi]

@[simp] theorem build_rsv : (Desc.build opc arg x1 y1 x2 y2 base).rsv = 0#16 := by
  unfold Desc.rsv; ext i hi
  rw [BitVec.getElem_extractLsb', build_getLsbD, if_neg (by omega), if_neg (by omega), if_neg (by omega),
    if_neg (by omega), if_neg (by omega), if_neg (by omega), if_neg (by omega)]; simp

/-- A coordinate that fits its field is read back as it was. -/
theorem toInt_ofInt_of_fits {v : Int} (h : coordFits v = true) : (BitVec.ofInt 16 v).toInt = v := by
  simp only [coordFits, Bool.and_eq_true, decide_eq_true_eq] at h
  rw [BitVec.toInt_ofInt]; simp only [Int.bmod]; omega

/-- Every coordinate read from a field fits it. -/
theorem toInt_fits (v : Half) : coordFits v.toInt = true := by
  have h1 := @BitVec.toInt_lt 16 v
  have h2 := @BitVec.le_toInt 16 v
  simp only [coordFits, Bool.and_eq_true, decide_eq_true_eq]
  simp only [Nat.add_one_sub_one] at h1 h2
  omega

/-- What accepting an instruction says of the must-be-zero parts. -/
theorem acceptWhen_ok {a b c d : Bool} {i j : Instr} (h : acceptWhen a b c d i = .ok j) :
    a = true ∧ b = true ∧ c = true ∧ d = true ∧ i = j := by
  unfold acceptWhen at h; cases a <;> cases b <;> cases c <;> cases d <;> simp_all

end Sys2Proof.Laws
end

