-- ==== Sys2Proof/Laws/Geometry.lean ====
section
/-! SUPPORT. Small lemmas of the geometry functions: casts to the integers the spec computes in, and bounds. -/

namespace Sys2Proof.Machine

@[simp] theorem panelW_eq : panelW = 256 := rfl
@[simp] theorem panelH_eq : panelH = 64 := rfl
@[simp] theorem maxLines_eq : maxLines = 16 := rfl
@[simp] theorem bpp_g8 : bpp .g8 = 1 := rfl
@[simp] theorem bpp_rgb565 : bpp .rgb565 = 2 := rfl

theorem bpp_pos (fmt : Fmt) : 0 < bpp fmt := by cases fmt <;> simp

theorem clampX_cast (v : Int) : (clampX v : Int) = max 0 (min v 255) := by
  simp only [clampX, clampTo, panelW_eq]; omega

theorem clampY_cast (v : Int) : (clampY v : Int) = max 0 (min v 63) := by
  simp only [clampY, clampTo, panelH_eq]; omega

theorem clampX_le (v : Int) : clampX v ≤ 255 := by have := clampX_cast v; omega
theorem clampY_le (v : Int) : clampY v ≤ 63 := by have := clampY_cast v; omega

theorem degenerate_iff (r : Rect) :
    Degenerate r ↔ r.x2 < r.x1 ∨ r.y2 < r.y1 ∨ r.x2 < 0 ∨ 255 < r.x1 ∨ r.y2 < 0 ∨ 63 < r.y1 := Iff.rfl

/-- What a rectangle that is not degenerate gives every later step. -/
theorem clamped_order {r : Rect} (h : ¬ Degenerate r) :
    clampX r.x1 ≤ clampX r.x2 ∧ clampY r.y1 ≤ clampY r.y2 ∧ r.x1 ≤ clampX r.x1 ∧ r.y1 ≤ clampY r.y1 ∧
      (clampX r.x2 : Int) ≤ r.x2 ∧ (clampY r.y2 : Int) ≤ r.y2 := by
  rw [degenerate_iff] at h
  have := clampX_cast r.x1; have := clampX_cast r.x2; have := clampY_cast r.y1; have := clampY_cast r.y2
  omega

/-- The index of a pixel of the requested rectangle is not negative. -/
theorem pixelIndex_nonneg {r : Rect} {x y : Nat} (hx : r.x1 ≤ x) (hx2 : (x : Int) ≤ r.x2) (hy : r.y1 ≤ y) :
    0 ≤ pixelIndex r x y := by
  have h1 : 0 ≤ ((y : Int) - r.y1) * (r.x2 - r.x1 + 1) := Int.mul_nonneg (by omega) (by omega)
  unfold pixelIndex; omega

/-- Without truncation: the SRC address of a sampled pixel is the integer the spec computes. -/
theorem pixelAddr_cast (fmt : Fmt) {r : Rect} (base : Nat) {x y : Nat} (hx : r.x1 ≤ x) (hx2 : (x : Int) ≤ r.x2)
    (hy : r.y1 ≤ y) : (pixelAddr fmt r base x y : Int) = (base : Int) + (bpp fmt : Int) * pixelIndex r x y := by
  have h := pixelIndex_nonneg hx hx2 hy
  have : 0 ≤ (bpp fmt : Int) * pixelIndex r x y := Int.mul_nonneg (by omega) h
  unfold pixelAddr; omega

theorem q_pos {cfg : Config} (h : cfg.Valid) : 0 < cfg.q := by rcases h.1 with h | h <;> omega

theorem alo_le (cfg : Config) (x : Nat) : alo cfg x ≤ x := Nat.mul_div_le _ _

theorem le_ahi {cfg : Config} (h : cfg.Valid) (x : Nat) : x ≤ ahi cfg x := by
  have := q_pos h; have := Nat.div_add_mod x cfg.q; have := Nat.mod_lt x (q_pos h)
  unfold ahi; omega

/-- An address unit that fits a byte is the byte's value. -/
theorem toNat_ofNat_byte {n : Nat} (h : n ≤ 255) : (BitVec.ofNat 8 n).toNat = n := by
  rw [BitVec.toNat_ofNat]; omega

end Sys2Proof.Machine
end

