-- ==== Sys2Proof/Laws/Sampling.lean ====
section
/-! SUPPORT. What SAMPLE and the search for the first fault can answer. -/

namespace Sys2Proof.Machine

@[simp] theorem faultOf_ok (n : Nib) : faultOf (.ok n) = none := rfl
@[simp] theorem faultOf_error (f : Fault) : faultOf (.error f) = some f := rfl
@[simp] theorem valueOf_ok (n : Nib) : valueOf (.ok n) = n := rfl

theorem readByte_some {m : Memory} {a : Nat} {v : Byte} (h : Memory.read m a = some v) : readByte m a = .ok v := by
  simp [readByte, h]

theorem readByte_none {m : Memory} {a : Nat} (h : Memory.read m a = none) : readByte m a = .error (.srcUnwritten a) := by
  simp [readByte, h]

/-- A pixel is fetched exactly when it is ready. -/
theorem fetchPixel_ready (cfg : Config) (m : Memory) (fmt : Fmt) (a : Nat) :
    faultOf (fetchPixel cfg m fmt a) = none ↔ PixelReady cfg m fmt a := by
  unfold fetchPixel PixelReady
  by_cases hr : cfg.stageBytes < a + bpp fmt
  · simp [hr]
  · rw [if_neg hr]
    have hle : a + bpp fmt ≤ cfg.stageBytes := by omega
    cases fmt with
    | g8 =>
      cases h0 : Memory.read m a with
      | none => simp [readByte_none h0, h0]
      | some b => simpa [readByte_some h0, h0] using hle
    | rgb565 =>
      have hk : (∀ k, k < bpp .rgb565 → (Memory.read m (a + k)).isSome = true) ↔
          (Memory.read m a).isSome = true ∧ (Memory.read m (a + 1)).isSome = true := by
        constructor
        · intro h; exact ⟨h 0 (by simp), h 1 (by simp)⟩
        · rintro ⟨h0, h1⟩ k hk
          have : k = 0 ∨ k = 1 := by simp at hk; omega
          rcases this with rfl | rfl
          · exact h0
          · exact h1
      rw [hk]
      cases h0 : Memory.read m a with
      | none => simp [readByte_none h0]
      | some b =>
        cases h1 : Memory.read m (a + 1) with
        | none => simp [readByte_some h0, readByte_none h1]
        | some c => simpa [readByte_some h0, readByte_some h1] using hle

/-- A pixel inside SRC is fetched with exactly the value its bytes stand for. -/
theorem fetchPixel_ok_iff {cfg : Config} {m : Memory} {fmt : Fmt} {a : Nat} {n : Nib} (h : a + bpp fmt ≤ cfg.stageBytes) :
    fetchPixel cfg m fmt a = .ok n ↔ SourcePixel cfg m a n fmt := by
  unfold fetchPixel
  rw [if_neg (by omega)]
  cases fmt with
  | g8 =>
    cases h0 : Memory.read m a with
    | none => simp [readByte_none h0, SourcePixel, h0]
    | some b => simp [readByte_some h0, SourcePixel, h0, eq_comm]
  | rgb565 =>
    cases h0 : Memory.read m a with
    | none => simp [readByte_none h0, SourcePixel, h0]
    | some b =>
      cases h1 : Memory.read m (a + 1) with
      | none => simp [readByte_some h0, readByte_none h1, SourcePixel, h0, h1]
      | some c => simp [readByte_some h0, readByte_some h1, SourcePixel, h0, h1, eq_comm]

theorem sample_inside {cfg : Config} {m : Memory} {fmt : Fmt} {r : Rect} {base x y : Nat} (h1 : clampX r.x1 ≤ x)
    (h2 : x ≤ clampX r.x2) : sample cfg m fmt r base x y = fetchPixel cfg m fmt (pixelAddr fmt r base x y) := by
  unfold sample; rw [if_neg (by omega)]

theorem sample_margin {cfg : Config} {m : Memory} {fmt : Fmt} {r : Rect} {base x y : Nat}
    (h : x < clampX r.x1 ∨ clampX r.x2 < x) : sample cfg m fmt r base x y = .ok 0#4 := by
  unfold sample; rw [if_pos h]

theorem mem_raster {ax1 cy1 ax2 cy2 : Nat} (hx : ax1 ≤ ax2) (hy : cy1 ≤ cy2) (p : Nat × Nat) :
    p ∈ raster ax1 cy1 ax2 cy2 ↔ ax1 ≤ p.1 ∧ p.1 ≤ ax2 ∧ cy1 ≤ p.2 ∧ p.2 ≤ cy2 := by
  obtain ⟨x, y⟩ := p
  simp only [raster, List.mem_flatMap, List.mem_map, List.mem_range, Prod.mk.injEq]
  constructor
  · rintro ⟨j, hj, i, hi, rfl, rfl⟩; omega
  · intro h; exact ⟨y - cy1, by omega, x - ax1, by omega, by omega, by omega⟩

/-- No fault is found exactly when no sample of the rectangle faults. -/
theorem firstFault_none_iff {px : Nat → Nat → Except Fault Nib} {ax1 cy1 ax2 cy2 : Nat} (hx : ax1 ≤ ax2) (hy : cy1 ≤ cy2) :
    firstFault px ax1 cy1 ax2 cy2 = none ↔
      ∀ x y, ax1 ≤ x → x ≤ ax2 → cy1 ≤ y → y ≤ cy2 → faultOf (px x y) = none := by
  unfold firstFault
  rw [List.findSome?_eq_none_iff]
  constructor
  · intro h x y h1 h2 h3 h4; exact h (x, y) ((mem_raster hx hy _).2 ⟨h1, h2, h3, h4⟩)
  · intro h p hp
    obtain ⟨h1, h2, h3, h4⟩ := (mem_raster hx hy p).1 hp
    exact h _ _ h1 h2 h3 h4

/-- A fault that is found is the fault of a sample of the rectangle. -/
theorem firstFault_some {px : Nat → Nat → Except Fault Nib} {ax1 cy1 ax2 cy2 : Nat} {f : Fault}
    (h : firstFault px ax1 cy1 ax2 cy2 = some f) : ∃ p ∈ raster ax1 cy1 ax2 cy2, px p.1 p.2 = .error f := by
  obtain ⟨p, hp, hf⟩ := List.exists_of_findSome?_eq_some h
  refine ⟨p, hp, ?_⟩
  cases hpx : px p.1 p.2 with
  | ok n => simp [hpx] at hf
  | error g => simp [hpx] at hf; rw [hf]

/-- A flush of a rectangle that meets the panel finds no fault exactly when its source is ready. -/
theorem firstFault_sample_none_iff {s : State} {fmt : Fmt} {r : Rect} {base : Nat} (hv : s.cfg.Valid) (hd : ¬ Degenerate r) :
    firstFault (sample s.cfg s.src fmt r base) (alo s.cfg (clampX r.x1)) (clampY r.y1) (ahi s.cfg (clampX r.x2))
      (clampY r.y2) = none ↔ SourceReady s fmt r base := by
  have ho := clamped_order hd
  have a1 := alo_le s.cfg (clampX r.x1)
  have a2 := le_ahi hv (clampX r.x2)
  rw [firstFault_none_iff (by omega) ho.2.1]
  constructor
  · intro h x y h1 h2 h3 h4
    have := h x y (by omega) (by omega) h3 h4
    rw [sample_inside h1 h2] at this
    exact (fetchPixel_ready ..).1 this
  · intro h x y h1 h2 h3 h4
    by_cases hx : x < clampX r.x1 ∨ clampX r.x2 < x
    · rw [sample_margin hx]; rfl
    · rw [sample_inside (by omega) (by omega)]
      exact (fetchPixel_ready ..).2 (h x y (by omega) (by omega) h3 h4)

end Sys2Proof.Machine
end

