-- ==== Sys2Proof/Laws/State.lean ====
section
/-! SUPPORT. One lemma per field per state update, each true by rfl, so that no proof unfolds a record update. -/

namespace Sys2Proof.Machine

variable (s : State)

/-! `emit` -/

@[simp] theorem emit_cfg (es : List Event) : (emit es s).cfg = s.cfg := rfl
@[simp] theorem emit_busy (es : List Event) : (emit es s).busy = s.busy := rfl
@[simp] theorem emit_dl (es : List Event) : (emit es s).dl = s.dl := rfl
@[simp] theorem emit_res (es : List Event) : (emit es s).res = s.res := rfl
@[simp] theorem emit_rx1 (es : List Event) : (emit es s).rx1 = s.rx1 := rfl
@[simp] theorem emit_ry1 (es : List Event) : (emit es s).ry1 = s.ry1 := rfl
@[simp] theorem emit_rx2 (es : List Event) : (emit es s).rx2 = s.rx2 := rfl
@[simp] theorem emit_ry2 (es : List Event) : (emit es s).ry2 = s.ry2 := rfl
@[simp] theorem emit_roundDone (es : List Event) : (emit es s).roundDone = s.roundDone := rfl
@[simp] theorem emit_stgLines (es : List Event) : (emit es s).stgLines = s.stgLines := rfl
@[simp] theorem emit_stgFmt (es : List Event) : (emit es s).stgFmt = s.stgFmt := rfl
@[simp] theorem emit_rowCnt (es : List Event) : (emit es s).rowCnt = s.rowCnt := rfl
@[simp] theorem emit_colCnt (es : List Event) : (emit es s).colCnt = s.colCnt := rfl
@[simp] theorem emit_nibHold (es : List Event) : (emit es s).nibHold = s.nibHold := rfl
@[simp] theorem emit_src (es : List Event) : (emit es s).src = s.src := rfl
@[simp] theorem emit_trace (es : List Event) : (emit es s).trace = s.trace ++ es := rfl
@[simp] theorem emit_host (es : List Event) : (emit es s).host = s.host := rfl
@[simp] theorem emit_replies (es : List Event) : (emit es s).replies = s.replies := rfl
@[simp] theorem emit_freeCtr (es : List Event) : (emit es s).freeCtr = s.freeCtr := rfl

/-! `complete` -/

@[simp] theorem complete_cfg (code : Byte) : (complete code s).cfg = s.cfg := rfl
@[simp] theorem complete_busy (code : Byte) : (complete code s).busy = false := rfl
@[simp] theorem complete_dl (code : Byte) : (complete code s).dl = s.dl := rfl
@[simp] theorem complete_res (code : Byte) : (complete code s).res = code := rfl
@[simp] theorem complete_rx1 (code : Byte) : (complete code s).rx1 = s.rx1 := rfl
@[simp] theorem complete_ry1 (code : Byte) : (complete code s).ry1 = s.ry1 := rfl
@[simp] theorem complete_rx2 (code : Byte) : (complete code s).rx2 = s.rx2 := rfl
@[simp] theorem complete_ry2 (code : Byte) : (complete code s).ry2 = s.ry2 := rfl
@[simp] theorem complete_roundDone (code : Byte) : (complete code s).roundDone = s.roundDone := rfl
@[simp] theorem complete_stgLines (code : Byte) : (complete code s).stgLines = s.stgLines := rfl
@[simp] theorem complete_stgFmt (code : Byte) : (complete code s).stgFmt = s.stgFmt := rfl
@[simp] theorem complete_rowCnt (code : Byte) : (complete code s).rowCnt = Config.freeRowCnt s.freeCtr := rfl
@[simp] theorem complete_colCnt (code : Byte) : (complete code s).colCnt = Config.freeColCnt s.freeCtr := rfl
@[simp] theorem complete_nibHold (code : Byte) : (complete code s).nibHold = Config.freeNibHold s.freeCtr := rfl
@[simp] theorem complete_src (code : Byte) : (complete code s).src = s.src := rfl
@[simp] theorem complete_trace (code : Byte) : (complete code s).trace = s.trace := rfl
@[simp] theorem complete_host (code : Byte) : (complete code s).host = s.host := rfl
@[simp] theorem complete_replies (code : Byte) : (complete code s).replies = s.replies := rfl
@[simp] theorem complete_freeCtr (code : Byte) : (complete code s).freeCtr = s.freeCtr + 1 := rfl

/-! `setRect` -/

@[simp] theorem setRect_cfg (r : Rect) : (setRect r s).cfg = s.cfg := rfl
@[simp] theorem setRect_busy (r : Rect) : (setRect r s).busy = s.busy := rfl
@[simp] theorem setRect_dl (r : Rect) : (setRect r s).dl = s.dl := rfl
@[simp] theorem setRect_res (r : Rect) : (setRect r s).res = s.res := rfl
@[simp] theorem setRect_rx1 (r : Rect) : (setRect r s).rx1 = BitVec.ofInt 16 r.x1 := rfl
@[simp] theorem setRect_ry1 (r : Rect) : (setRect r s).ry1 = BitVec.ofInt 16 r.y1 := rfl
@[simp] theorem setRect_rx2 (r : Rect) : (setRect r s).rx2 = BitVec.ofInt 16 r.x2 := rfl
@[simp] theorem setRect_ry2 (r : Rect) : (setRect r s).ry2 = BitVec.ofInt 16 r.y2 := rfl
@[simp] theorem setRect_roundDone (r : Rect) : (setRect r s).roundDone = true := rfl
@[simp] theorem setRect_stgLines (r : Rect) : (setRect r s).stgLines = s.stgLines := rfl
@[simp] theorem setRect_stgFmt (r : Rect) : (setRect r s).stgFmt = s.stgFmt := rfl
@[simp] theorem setRect_rowCnt (r : Rect) : (setRect r s).rowCnt = s.rowCnt := rfl
@[simp] theorem setRect_colCnt (r : Rect) : (setRect r s).colCnt = s.colCnt := rfl
@[simp] theorem setRect_nibHold (r : Rect) : (setRect r s).nibHold = s.nibHold := rfl
@[simp] theorem setRect_src (r : Rect) : (setRect r s).src = s.src := rfl
@[simp] theorem setRect_trace (r : Rect) : (setRect r s).trace = s.trace := rfl
@[simp] theorem setRect_host (r : Rect) : (setRect r s).host = s.host := rfl
@[simp] theorem setRect_replies (r : Rect) : (setRect r s).replies = s.replies := rfl
@[simp] theorem setRect_freeCtr (r : Rect) : (setRect r s).freeCtr = s.freeCtr := rfl

/-! `setStaging` -/

@[simp] theorem setStaging_cfg (lines : Nat) (fmt : Fmt) : (setStaging lines fmt s).cfg = s.cfg := rfl
@[simp] theorem setStaging_busy (lines : Nat) (fmt : Fmt) : (setStaging lines fmt s).busy = s.busy := rfl
@[simp] theorem setStaging_dl (lines : Nat) (fmt : Fmt) : (setStaging lines fmt s).dl = s.dl := rfl
@[simp] theorem setStaging_res (lines : Nat) (fmt : Fmt) : (setStaging lines fmt s).res = s.res := rfl
@[simp] theorem setStaging_rx1 (lines : Nat) (fmt : Fmt) : (setStaging lines fmt s).rx1 = s.rx1 := rfl
@[simp] theorem setStaging_ry1 (lines : Nat) (fmt : Fmt) : (setStaging lines fmt s).ry1 = s.ry1 := rfl
@[simp] theorem setStaging_rx2 (lines : Nat) (fmt : Fmt) : (setStaging lines fmt s).rx2 = s.rx2 := rfl
@[simp] theorem setStaging_ry2 (lines : Nat) (fmt : Fmt) : (setStaging lines fmt s).ry2 = s.ry2 := rfl
@[simp] theorem setStaging_roundDone (lines : Nat) (fmt : Fmt) : (setStaging lines fmt s).roundDone = s.roundDone := rfl
@[simp] theorem setStaging_stgLines (lines : Nat) (fmt : Fmt) : (setStaging lines fmt s).stgLines = BitVec.ofNat 5 lines := rfl
@[simp] theorem setStaging_stgFmt (lines : Nat) (fmt : Fmt) : (setStaging lines fmt s).stgFmt = fmt := rfl
@[simp] theorem setStaging_rowCnt (lines : Nat) (fmt : Fmt) : (setStaging lines fmt s).rowCnt = s.rowCnt := rfl
@[simp] theorem setStaging_colCnt (lines : Nat) (fmt : Fmt) : (setStaging lines fmt s).colCnt = s.colCnt := rfl
@[simp] theorem setStaging_nibHold (lines : Nat) (fmt : Fmt) : (setStaging lines fmt s).nibHold = s.nibHold := rfl
@[simp] theorem setStaging_src (lines : Nat) (fmt : Fmt) : (setStaging lines fmt s).src = s.src := rfl
@[simp] theorem setStaging_trace (lines : Nat) (fmt : Fmt) : (setStaging lines fmt s).trace = s.trace := rfl
@[simp] theorem setStaging_host (lines : Nat) (fmt : Fmt) : (setStaging lines fmt s).host = s.host := rfl
@[simp] theorem setStaging_replies (lines : Nat) (fmt : Fmt) : (setStaging lines fmt s).replies = s.replies := rfl
@[simp] theorem setStaging_freeCtr (lines : Nat) (fmt : Fmt) : (setStaging lines fmt s).freeCtr = s.freeCtr := rfl

/-! `storeSrc` -/

@[simp] theorem storeSrc_cfg (a : Nat) (v : Byte) : (storeSrc a v s).cfg = s.cfg := rfl
@[simp] theorem storeSrc_busy (a : Nat) (v : Byte) : (storeSrc a v s).busy = s.busy := rfl
@[simp] theorem storeSrc_dl (a : Nat) (v : Byte) : (storeSrc a v s).dl = s.dl := rfl
@[simp] theorem storeSrc_res (a : Nat) (v : Byte) : (storeSrc a v s).res = s.res := rfl
@[simp] theorem storeSrc_rx1 (a : Nat) (v : Byte) : (storeSrc a v s).rx1 = s.rx1 := rfl
@[simp] theorem storeSrc_ry1 (a : Nat) (v : Byte) : (storeSrc a v s).ry1 = s.ry1 := rfl
@[simp] theorem storeSrc_rx2 (a : Nat) (v : Byte) : (storeSrc a v s).rx2 = s.rx2 := rfl
@[simp] theorem storeSrc_ry2 (a : Nat) (v : Byte) : (storeSrc a v s).ry2 = s.ry2 := rfl
@[simp] theorem storeSrc_roundDone (a : Nat) (v : Byte) : (storeSrc a v s).roundDone = s.roundDone := rfl
@[simp] theorem storeSrc_stgLines (a : Nat) (v : Byte) : (storeSrc a v s).stgLines = s.stgLines := rfl
@[simp] theorem storeSrc_stgFmt (a : Nat) (v : Byte) : (storeSrc a v s).stgFmt = s.stgFmt := rfl
@[simp] theorem storeSrc_rowCnt (a : Nat) (v : Byte) : (storeSrc a v s).rowCnt = s.rowCnt := rfl
@[simp] theorem storeSrc_colCnt (a : Nat) (v : Byte) : (storeSrc a v s).colCnt = s.colCnt := rfl
@[simp] theorem storeSrc_nibHold (a : Nat) (v : Byte) : (storeSrc a v s).nibHold = s.nibHold := rfl
@[simp] theorem storeSrc_src (a : Nat) (v : Byte) : (storeSrc a v s).src = Memory.write s.src a v := rfl
@[simp] theorem storeSrc_trace (a : Nat) (v : Byte) : (storeSrc a v s).trace = s.trace := rfl
@[simp] theorem storeSrc_host (a : Nat) (v : Byte) : (storeSrc a v s).host = s.host := rfl
@[simp] theorem storeSrc_replies (a : Nat) (v : Byte) : (storeSrc a v s).replies = s.replies := rfl
@[simp] theorem storeSrc_freeCtr (a : Nat) (v : Byte) : (storeSrc a v s).freeCtr = s.freeCtr := rfl

/-! `latch` -/

@[simp] theorem latch_cfg (d : Desc) : (latch d s).cfg = s.cfg := rfl
@[simp] theorem latch_busy (d : Desc) : (latch d s).busy = true := rfl
@[simp] theorem latch_dl (d : Desc) : (latch d s).dl = d := rfl
@[simp] theorem latch_res (d : Desc) : (latch d s).res = s.res := rfl
@[simp] theorem latch_rx1 (d : Desc) : (latch d s).rx1 = s.rx1 := rfl
@[simp] theorem latch_ry1 (d : Desc) : (latch d s).ry1 = s.ry1 := rfl
@[simp] theorem latch_rx2 (d : Desc) : (latch d s).rx2 = s.rx2 := rfl
@[simp] theorem latch_ry2 (d : Desc) : (latch d s).ry2 = s.ry2 := rfl
@[simp] theorem latch_roundDone (d : Desc) : (latch d s).roundDone = s.roundDone := rfl
@[simp] theorem latch_stgLines (d : Desc) : (latch d s).stgLines = s.stgLines := rfl
@[simp] theorem latch_stgFmt (d : Desc) : (latch d s).stgFmt = s.stgFmt := rfl
@[simp] theorem latch_rowCnt (d : Desc) : (latch d s).rowCnt = s.rowCnt := rfl
@[simp] theorem latch_colCnt (d : Desc) : (latch d s).colCnt = s.colCnt := rfl
@[simp] theorem latch_nibHold (d : Desc) : (latch d s).nibHold = s.nibHold := rfl
@[simp] theorem latch_src (d : Desc) : (latch d s).src = s.src := rfl
@[simp] theorem latch_trace (d : Desc) : (latch d s).trace = s.trace := rfl
@[simp] theorem latch_host (d : Desc) : (latch d s).host = s.host := rfl
@[simp] theorem latch_replies (d : Desc) : (latch d s).replies = s.replies := rfl
@[simp] theorem latch_freeCtr (d : Desc) : (latch d s).freeCtr = s.freeCtr := rfl

/-! `takeIllegal` -/

@[simp] theorem takeIllegal_cfg (d : Desc) : (takeIllegal d s).cfg = s.cfg := rfl
@[simp] theorem takeIllegal_busy (d : Desc) : (takeIllegal d s).busy = false := rfl
@[simp] theorem takeIllegal_dl (d : Desc) : (takeIllegal d s).dl = s.dl := rfl
@[simp] theorem takeIllegal_res (d : Desc) : (takeIllegal d s).res = resIllegal := rfl
@[simp] theorem takeIllegal_rx1 (d : Desc) : (takeIllegal d s).rx1 = s.rx1 := rfl
@[simp] theorem takeIllegal_ry1 (d : Desc) : (takeIllegal d s).ry1 = s.ry1 := rfl
@[simp] theorem takeIllegal_rx2 (d : Desc) : (takeIllegal d s).rx2 = s.rx2 := rfl
@[simp] theorem takeIllegal_ry2 (d : Desc) : (takeIllegal d s).ry2 = s.ry2 := rfl
@[simp] theorem takeIllegal_roundDone (d : Desc) : (takeIllegal d s).roundDone = s.roundDone := rfl
@[simp] theorem takeIllegal_stgLines (d : Desc) : (takeIllegal d s).stgLines = s.stgLines := rfl
@[simp] theorem takeIllegal_stgFmt (d : Desc) : (takeIllegal d s).stgFmt = s.stgFmt := rfl
@[simp] theorem takeIllegal_rowCnt (d : Desc) : (takeIllegal d s).rowCnt = Config.freeRowCnt s.freeCtr := rfl
@[simp] theorem takeIllegal_colCnt (d : Desc) : (takeIllegal d s).colCnt = Config.freeColCnt s.freeCtr := rfl
@[simp] theorem takeIllegal_nibHold (d : Desc) : (takeIllegal d s).nibHold = Config.freeNibHold s.freeCtr := rfl
@[simp] theorem takeIllegal_src (d : Desc) : (takeIllegal d s).src = s.src := rfl
@[simp] theorem takeIllegal_trace (d : Desc) : (takeIllegal d s).trace = s.trace ++ if isFlushOpc d then [.ack] else [] := rfl
@[simp] theorem takeIllegal_host (d : Desc) : (takeIllegal d s).host = s.host := rfl
@[simp] theorem takeIllegal_replies (d : Desc) : (takeIllegal d s).replies = s.replies := rfl
@[simp] theorem takeIllegal_freeCtr (d : Desc) : (takeIllegal d s).freeCtr = s.freeCtr + 1 := rfl

/-! `resetBlock` -/

@[simp] theorem resetBlock_cfg : (resetBlock s).cfg = s.cfg := rfl
@[simp] theorem resetBlock_busy : (resetBlock s).busy = false := rfl
@[simp] theorem resetBlock_dl : (resetBlock s).dl = 0#128 := rfl
@[simp] theorem resetBlock_res : (resetBlock s).res = 0x00#8 := rfl
@[simp] theorem resetBlock_rx1 : (resetBlock s).rx1 = 0#16 := rfl
@[simp] theorem resetBlock_ry1 : (resetBlock s).ry1 = 0#16 := rfl
@[simp] theorem resetBlock_rx2 : (resetBlock s).rx2 = 0#16 := rfl
@[simp] theorem resetBlock_ry2 : (resetBlock s).ry2 = 0#16 := rfl
@[simp] theorem resetBlock_roundDone : (resetBlock s).roundDone = false := rfl
@[simp] theorem resetBlock_stgLines : (resetBlock s).stgLines = 0#5 := rfl
@[simp] theorem resetBlock_stgFmt : (resetBlock s).stgFmt = .g8 := rfl
@[simp] theorem resetBlock_rowCnt : (resetBlock s).rowCnt = 0#6 := rfl
@[simp] theorem resetBlock_colCnt : (resetBlock s).colCnt = 0#8 := rfl
@[simp] theorem resetBlock_nibHold : (resetBlock s).nibHold = 0#4 := rfl
@[simp] theorem resetBlock_src : (resetBlock s).src = s.src := rfl
@[simp] theorem resetBlock_trace : (resetBlock s).trace = [] := rfl
@[simp] theorem resetBlock_host : (resetBlock s).host = s.host := rfl
@[simp] theorem resetBlock_replies : (resetBlock s).replies = s.replies := rfl
@[simp] theorem resetBlock_freeCtr : (resetBlock s).freeCtr = s.freeCtr := rfl

/-! `answer` -/

@[simp] theorem answer_cfg (r : PortValue) : (answer r s).cfg = s.cfg := rfl
@[simp] theorem answer_busy (r : PortValue) : (answer r s).busy = s.busy := rfl
@[simp] theorem answer_dl (r : PortValue) : (answer r s).dl = s.dl := rfl
@[simp] theorem answer_res (r : PortValue) : (answer r s).res = s.res := rfl
@[simp] theorem answer_rx1 (r : PortValue) : (answer r s).rx1 = s.rx1 := rfl
@[simp] theorem answer_ry1 (r : PortValue) : (answer r s).ry1 = s.ry1 := rfl
@[simp] theorem answer_rx2 (r : PortValue) : (answer r s).rx2 = s.rx2 := rfl
@[simp] theorem answer_ry2 (r : PortValue) : (answer r s).ry2 = s.ry2 := rfl
@[simp] theorem answer_roundDone (r : PortValue) : (answer r s).roundDone = s.roundDone := rfl
@[simp] theorem answer_stgLines (r : PortValue) : (answer r s).stgLines = s.stgLines := rfl
@[simp] theorem answer_stgFmt (r : PortValue) : (answer r s).stgFmt = s.stgFmt := rfl
@[simp] theorem answer_rowCnt (r : PortValue) : (answer r s).rowCnt = s.rowCnt := rfl
@[simp] theorem answer_colCnt (r : PortValue) : (answer r s).colCnt = s.colCnt := rfl
@[simp] theorem answer_nibHold (r : PortValue) : (answer r s).nibHold = s.nibHold := rfl
@[simp] theorem answer_src (r : PortValue) : (answer r s).src = s.src := rfl
@[simp] theorem answer_trace (r : PortValue) : (answer r s).trace = s.trace := rfl
@[simp] theorem answer_host (r : PortValue) : (answer r s).host = s.host := rfl
@[simp] theorem answer_replies (r : PortValue) : (answer r s).replies = s.replies ++ [.value r] := rfl
@[simp] theorem answer_freeCtr (r : PortValue) : (answer r s).freeCtr = s.freeCtr := rfl

/-! `answerFree` -/

@[simp] theorem answerFree_cfg (r : PortValue) : (answerFree r s).cfg = s.cfg := rfl
@[simp] theorem answerFree_busy (r : PortValue) : (answerFree r s).busy = s.busy := rfl
@[simp] theorem answerFree_dl (r : PortValue) : (answerFree r s).dl = s.dl := rfl
@[simp] theorem answerFree_res (r : PortValue) : (answerFree r s).res = s.res := rfl
@[simp] theorem answerFree_rx1 (r : PortValue) : (answerFree r s).rx1 = s.rx1 := rfl
@[simp] theorem answerFree_ry1 (r : PortValue) : (answerFree r s).ry1 = s.ry1 := rfl
@[simp] theorem answerFree_rx2 (r : PortValue) : (answerFree r s).rx2 = s.rx2 := rfl
@[simp] theorem answerFree_ry2 (r : PortValue) : (answerFree r s).ry2 = s.ry2 := rfl
@[simp] theorem answerFree_roundDone (r : PortValue) : (answerFree r s).roundDone = s.roundDone := rfl
@[simp] theorem answerFree_stgLines (r : PortValue) : (answerFree r s).stgLines = s.stgLines := rfl
@[simp] theorem answerFree_stgFmt (r : PortValue) : (answerFree r s).stgFmt = s.stgFmt := rfl
@[simp] theorem answerFree_rowCnt (r : PortValue) : (answerFree r s).rowCnt = s.rowCnt := rfl
@[simp] theorem answerFree_colCnt (r : PortValue) : (answerFree r s).colCnt = s.colCnt := rfl
@[simp] theorem answerFree_nibHold (r : PortValue) : (answerFree r s).nibHold = s.nibHold := rfl
@[simp] theorem answerFree_src (r : PortValue) : (answerFree r s).src = s.src := rfl
@[simp] theorem answerFree_trace (r : PortValue) : (answerFree r s).trace = s.trace := rfl
@[simp] theorem answerFree_host (r : PortValue) : (answerFree r s).host = s.host := rfl
@[simp] theorem answerFree_replies (r : PortValue) : (answerFree r s).replies = s.replies ++ [.unavailable r] := rfl
@[simp] theorem answerFree_freeCtr (r : PortValue) : (answerFree r s).freeCtr = s.freeCtr + 1 := rfl

/-! `dropMove` -/

@[simp] theorem dropMove_cfg (ms : List HostMove) : (dropMove ms s).cfg = s.cfg := rfl
@[simp] theorem dropMove_busy (ms : List HostMove) : (dropMove ms s).busy = s.busy := rfl
@[simp] theorem dropMove_dl (ms : List HostMove) : (dropMove ms s).dl = s.dl := rfl
@[simp] theorem dropMove_res (ms : List HostMove) : (dropMove ms s).res = s.res := rfl
@[simp] theorem dropMove_rx1 (ms : List HostMove) : (dropMove ms s).rx1 = s.rx1 := rfl
@[simp] theorem dropMove_ry1 (ms : List HostMove) : (dropMove ms s).ry1 = s.ry1 := rfl
@[simp] theorem dropMove_rx2 (ms : List HostMove) : (dropMove ms s).rx2 = s.rx2 := rfl
@[simp] theorem dropMove_ry2 (ms : List HostMove) : (dropMove ms s).ry2 = s.ry2 := rfl
@[simp] theorem dropMove_roundDone (ms : List HostMove) : (dropMove ms s).roundDone = s.roundDone := rfl
@[simp] theorem dropMove_stgLines (ms : List HostMove) : (dropMove ms s).stgLines = s.stgLines := rfl
@[simp] theorem dropMove_stgFmt (ms : List HostMove) : (dropMove ms s).stgFmt = s.stgFmt := rfl
@[simp] theorem dropMove_rowCnt (ms : List HostMove) : (dropMove ms s).rowCnt = s.rowCnt := rfl
@[simp] theorem dropMove_colCnt (ms : List HostMove) : (dropMove ms s).colCnt = s.colCnt := rfl
@[simp] theorem dropMove_nibHold (ms : List HostMove) : (dropMove ms s).nibHold = s.nibHold := rfl
@[simp] theorem dropMove_src (ms : List HostMove) : (dropMove ms s).src = s.src := rfl
@[simp] theorem dropMove_trace (ms : List HostMove) : (dropMove ms s).trace = s.trace := rfl
@[simp] theorem dropMove_host (ms : List HostMove) : (dropMove ms s).host = ms := rfl
@[simp] theorem dropMove_replies (ms : List HostMove) : (dropMove ms s).replies = s.replies := rfl
@[simp] theorem dropMove_freeCtr (ms : List HostMove) : (dropMove ms s).freeCtr = s.freeCtr := rfl

/-! `offer` -/

@[simp] theorem offer_cfg (d : Desc) : (offer d s).cfg = s.cfg := rfl
@[simp] theorem offer_busy (d : Desc) : (offer d s).busy = false := rfl
@[simp] theorem offer_dl (d : Desc) : (offer d s).dl = s.dl := rfl
@[simp] theorem offer_res (d : Desc) : (offer d s).res = s.res := rfl
@[simp] theorem offer_rx1 (d : Desc) : (offer d s).rx1 = s.rx1 := rfl
@[simp] theorem offer_ry1 (d : Desc) : (offer d s).ry1 = s.ry1 := rfl
@[simp] theorem offer_rx2 (d : Desc) : (offer d s).rx2 = s.rx2 := rfl
@[simp] theorem offer_ry2 (d : Desc) : (offer d s).ry2 = s.ry2 := rfl
@[simp] theorem offer_roundDone (d : Desc) : (offer d s).roundDone = s.roundDone := rfl
@[simp] theorem offer_stgLines (d : Desc) : (offer d s).stgLines = s.stgLines := rfl
@[simp] theorem offer_stgFmt (d : Desc) : (offer d s).stgFmt = s.stgFmt := rfl
@[simp] theorem offer_rowCnt (d : Desc) : (offer d s).rowCnt = s.rowCnt := rfl
@[simp] theorem offer_colCnt (d : Desc) : (offer d s).colCnt = s.colCnt := rfl
@[simp] theorem offer_nibHold (d : Desc) : (offer d s).nibHold = s.nibHold := rfl
@[simp] theorem offer_src (d : Desc) : (offer d s).src = s.src := rfl
@[simp] theorem offer_trace (d : Desc) : (offer d s).trace = s.trace := rfl
@[simp] theorem offer_host (d : Desc) : (offer d s).host = .issue d :: s.host := rfl
@[simp] theorem offer_replies (d : Desc) : (offer d s).replies = s.replies := rfl
@[simp] theorem offer_freeCtr (d : Desc) : (offer d s).freeCtr = s.freeCtr := rfl

/-! `State.resetWith` -/

@[simp] theorem resetWith_cfg (cfg : Config) : (State.resetWith cfg).cfg = cfg := rfl
@[simp] theorem resetWith_busy (cfg : Config) : (State.resetWith cfg).busy = false := rfl
@[simp] theorem resetWith_dl (cfg : Config) : (State.resetWith cfg).dl = 0#128 := rfl
@[simp] theorem resetWith_res (cfg : Config) : (State.resetWith cfg).res = 0x00#8 := rfl
@[simp] theorem resetWith_rx1 (cfg : Config) : (State.resetWith cfg).rx1 = 0#16 := rfl
@[simp] theorem resetWith_ry1 (cfg : Config) : (State.resetWith cfg).ry1 = 0#16 := rfl
@[simp] theorem resetWith_rx2 (cfg : Config) : (State.resetWith cfg).rx2 = 0#16 := rfl
@[simp] theorem resetWith_ry2 (cfg : Config) : (State.resetWith cfg).ry2 = 0#16 := rfl
@[simp] theorem resetWith_roundDone (cfg : Config) : (State.resetWith cfg).roundDone = false := rfl
@[simp] theorem resetWith_stgLines (cfg : Config) : (State.resetWith cfg).stgLines = 0#5 := rfl
@[simp] theorem resetWith_stgFmt (cfg : Config) : (State.resetWith cfg).stgFmt = .g8 := rfl
@[simp] theorem resetWith_rowCnt (cfg : Config) : (State.resetWith cfg).rowCnt = 0#6 := rfl
@[simp] theorem resetWith_colCnt (cfg : Config) : (State.resetWith cfg).colCnt = 0#8 := rfl
@[simp] theorem resetWith_nibHold (cfg : Config) : (State.resetWith cfg).nibHold = 0#4 := rfl
@[simp] theorem resetWith_src (cfg : Config) : (State.resetWith cfg).src = [] := rfl
@[simp] theorem resetWith_trace (cfg : Config) : (State.resetWith cfg).trace = [] := rfl
@[simp] theorem resetWith_host (cfg : Config) : (State.resetWith cfg).host = [] := rfl
@[simp] theorem resetWith_replies (cfg : Config) : (State.resetWith cfg).replies = [] := rfl
@[simp] theorem resetWith_freeCtr (cfg : Config) : (State.resetWith cfg).freeCtr = 0 := rfl

end Sys2Proof.Machine
end

