-- ==== Sys2Proof/Laws/Exec.lean ====
section
/-! SUPPORT. Inversion lemmas: everything an operation, an issue, a host move and a step can answer. Later proofs cite these
and do not unfold the definitions. -/

namespace Sys2Proof.Machine

/-- The three answers of a flush body: an early exit with one `Ack`, a fault of a sample, or the whole stream. -/
theorem flushCore_cases (fmt : Fmt) (ctx : Bool) (r : Rect) (base : Nat) (s : State) :
    ((ctx = false ∨ Degenerate r) ∧ flushCore fmt ctx r base s = .next (complete resOk (emit [.ack] s))) ∨
    (ctx = true ∧ ¬ Degenerate r ∧ ∃ f, firstFault (sample s.cfg s.src fmt r base) (alo s.cfg (clampX r.x1)) (clampY r.y1)
        (ahi s.cfg (clampX r.x2)) (clampY r.y2) = some f ∧ flushCore fmt ctx r base s = .fault f) ∨
    (ctx = true ∧ ¬ Degenerate r ∧ firstFault (sample s.cfg s.src fmt r base) (alo s.cfg (clampX r.x1)) (clampY r.y1)
        (ahi s.cfg (clampX r.x2)) (clampY r.y2) = none ∧
      flushCore fmt ctx r base s = .next (complete resOk (emit
        (window s.cfg (alo s.cfg (clampX r.x1)) (clampY r.y1) (ahi s.cfg (clampX r.x2)) (clampY r.y2) ++
          stream s.cfg (alo s.cfg (clampX r.x1)) (clampY r.y1) (ahi s.cfg (clampX r.x2)) (clampY r.y2)
            (fun x y => valueOf (sample s.cfg s.src fmt r base x y)) ++ [.ack]) s))) := by
  unfold flushCore
  cases ctx with
  | false => simp
  | true =>
    by_cases hd : Degenerate r
    · simp [hd]
    · simp only [hd, if_false]
      cases hf : firstFault (sample s.cfg s.src fmt r base) (alo s.cfg (clampX r.x1)) (clampY r.y1)
        (ahi s.cfg (clampX r.x2)) (clampY r.y2) <;> simp

/-- Both flushes are the shared body. -/
theorem exec_flushOp (fmt : Fmt) (ctx : Bool) (r : Rect) (base : Nat) (s : State) :
    exec (flushOp fmt ctx r base) s = flushCore fmt ctx r base s := by
  cases fmt <;> rfl

/-- What every completed operation leaves: the block idle, a result code, the trace grown at its end, SRC and the
surroundings as they were. -/
structure OpEffect (s t : State) : Prop where
  cfg     : t.cfg = s.cfg
  dl      : t.dl = s.dl
  src     : t.src = s.src
  host    : t.host = s.host
  replies : t.replies = s.replies
  idle    : t.busy = false
  res     : t.res = resOk ∨ t.res = resFail ∨ t.res = resIllegal
  lines   : t.stgLines = s.stgLines ∨ t.stgLines.toNat ≤ 16
  trace   : ∃ es, t.trace = s.trace ++ es

theorem opEffect_emit (es : List Event) (s : State) : OpEffect s (complete resOk (emit es s)) :=
  { cfg := rfl, dl := rfl, src := rfl, host := rfl, replies := rfl, idle := rfl, res := .inl rfl, lines := .inl rfl,
    trace := ⟨es, rfl⟩ }

theorem opEffect_illegal (d : Desc) (s : State) : OpEffect s (takeIllegal d s) :=
  { cfg := rfl, dl := rfl, src := rfl, host := rfl, replies := rfl, idle := rfl, res := .inr (.inr rfl), lines := .inl rfl,
    trace := ⟨_, rfl⟩ }

/-- A flush completes with an operation's effect or faults. -/
theorem flushCore_effect (fmt : Fmt) (ctx : Bool) (r : Rect) (base : Nat) (s : State) :
    (∃ t, flushCore fmt ctx r base s = .next t ∧ OpEffect s t) ∨ ∃ f, flushCore fmt ctx r base s = .fault f := by
  rcases flushCore_cases fmt ctx r base s with ⟨-, h⟩ | ⟨-, -, f, -, h⟩ | ⟨-, -, -, h⟩
  · exact .inl ⟨_, h, opEffect_emit _ s⟩
  · exact .inr ⟨f, h⟩
  · exact .inl ⟨_, h, opEffect_emit _ s⟩

/-- Everything exec can answer: a next state with an operation's effect, or the fault of a flush. It never refuses. -/
theorem exec_cases (i : Instr) (s : State) :
    (∃ t, exec i s = .next t ∧ OpEffect s t) ∨
      (∃ f fmt ctx r base, i = flushOp fmt ctx r base ∧ exec i s = .fault f) := by
  cases i with
  | setwin r => exact .inl ⟨_, rfl, opEffect_emit _ s⟩
  | fill v => exact .inl ⟨_, rfl, opEffect_emit _ s⟩
  | tpat => exact .inl ⟨_, rfl, opEffect_emit _ s⟩
  | flush8 ctx r base =>
    rcases flushCore_effect .g8 ctx r base s with h | ⟨f, h⟩
    · exact .inl h
    · exact .inr ⟨f, .g8, ctx, r, base, rfl, h⟩
  | flush16 ctx r base =>
    rcases flushCore_effect .rgb565 ctx r base s with h | ⟨f, h⟩
    · exact .inl h
    · exact .inr ⟨f, .rgb565, ctx, r, base, rfl, h⟩
  | round r =>
    exact .inl ⟨_, rfl, { cfg := rfl, dl := rfl, src := rfl, host := rfl, replies := rfl, idle := rfl, res := .inl rfl,
                          lines := .inl rfl, trace := ⟨[], by simp⟩ }⟩
  | setup lines fmt =>
    refine .inl ⟨_, rfl, ?_⟩
    by_cases h : SetupAccepts s.cfg lines fmt
    · rw [if_pos h]
      have hl : lines ≤ 16 := h.2.1
      exact { cfg := rfl, dl := rfl, src := rfl, host := rfl, replies := rfl, idle := rfl, res := .inl rfl,
              lines := .inr (by simp only [complete_stgLines, setStaging_stgLines, BitVec.toNat_ofNat]; omega),
              trace := ⟨[], by simp⟩ }
    · rw [if_neg h]
      exact { cfg := rfl, dl := rfl, src := rfl, host := rfl, replies := rfl, idle := rfl, res := .inr (.inl rfl),
              lines := .inl rfl, trace := ⟨[], by simp⟩ }

/-- What issuing a descriptor can answer. -/
theorem issue_cases (d : Desc) (s : State) :
    (s.busy = true ∧ issue d s = .next s) ∨
    (s.busy = false ∧ (∃ e, decode d = .error e) ∧ issue d s = .next (takeIllegal d (latch d s))) ∨
    (s.busy = false ∧ ∃ i, decode d = .ok i ∧ issue d s = exec i (latch d s)) := by
  unfold issue
  cases hb : s.busy with
  | true => simp
  | false =>
    cases hd : decode d with
    | error e => simp
    | ok i => simp

/-- What a step can answer: it waits, it performs the next move, or it refuses the configuration. -/
theorem step_cases (s : State) :
    (¬ s.cfg.Valid ∧ step s = .refused .invalidConfig) ∨
    (s.cfg.Valid ∧ s.host = [] ∧ step s = .next s) ∨
    (s.cfg.Valid ∧ ∃ m ms, s.host = m :: ms ∧ step s = perform m (dropMove ms s)) := by
  unfold step nextMove
  by_cases hv : s.cfg.Valid
  · rw [if_pos hv]
    cases hh : s.host with
    | nil => exact .inr (.inl ⟨hv, rfl, rfl⟩)
    | cons m ms => exact .inr (.inr ⟨hv, m, ms, rfl, rfl⟩)
  · exact .inl ⟨hv, if_neg hv⟩

/-- A step of a legal configuration performs the next move. -/
theorem step_eq_perform {s : State} {m : HostMove} {ms : List HostMove} (hv : s.cfg.Valid) (hh : s.host = m :: ms) :
    step s = perform m (dropMove ms s) := by
  unfold step nextMove; rw [if_pos hv, hh]

/-- When a step answers a next state: the configuration is legal, and it waited or performed the next move. -/
theorem step_next {s t : State} (h : step s = .next t) :
    s.cfg.Valid ∧ ((s.host = [] ∧ t = s) ∨ ∃ m ms, s.host = m :: ms ∧ perform m (dropMove ms s) = .next t) := by
  rcases step_cases s with ⟨_, h'⟩ | ⟨hv, hh, h'⟩ | ⟨hv, m, ms, hh, h'⟩ <;> rw [h'] at h
  · cases h
  · cases h; exact ⟨hv, .inl ⟨hh, rfl⟩⟩
  · exact ⟨hv, .inr ⟨m, ms, hh, h⟩⟩

/-- When an operation answers a next state, it had an operation's effect. -/
theorem exec_next {i : Instr} {s t : State} (h : exec i s = .next t) : OpEffect s t := by
  rcases exec_cases i s with ⟨u, h2, e⟩ | ⟨f, _, _, _, _, _, h2⟩ <;> rw [h2] at h <;> cases h
  exact e

/-- When an issue answers a next state: the offer was ignored, or the descriptor was illegal, or its operation ran. -/
theorem issue_next {d : Desc} {s t : State} (h : issue d s = .next t) :
    (s.busy = true ∧ t = s) ∨
    (s.busy = false ∧ (∃ e, decode d = .error e) ∧ t = takeIllegal d (latch d s)) ∨
    (s.busy = false ∧ ∃ i, decode d = .ok i ∧ exec i (latch d s) = .next t ∧ OpEffect (latch d s) t) := by
  rcases issue_cases d s with ⟨hb, h'⟩ | ⟨hb, he, h'⟩ | ⟨hb, i, hd, h'⟩ <;> rw [h'] at h
  · cases h; exact .inl ⟨hb, rfl⟩
  · cases h; exact .inr (.inl ⟨hb, he, rfl⟩)
  · exact .inr (.inr ⟨hb, i, hd, h, exec_next h⟩)

/-- A read gets the register's value where it is available, else a refusal that shows a free value. -/
theorem answerRead_cases (b : Bool) (q : PortValue) (u : Nat → PortValue) (s : State) :
    ∃ r, answerRead b q u s = answer r s ∨ answerRead b q u s = answerFree r s := by
  cases b with
  | true => exact ⟨q, .inl rfl⟩
  | false => exact ⟨u s.freeCtr, .inr rfl⟩

/-- Everything a host move other than an issue can do when it answers a next state. -/
theorem perform_next {m : HostMove} {s t : State} (h : perform m s = .next t) :
    (∃ d, m = .issue d ∧ issue d s = .next t) ∨
    (∃ a v, m = .writeSrc a v ∧ a < s.cfg.stageBytes ∧ t = storeSrc a v s) ∨
    (m = .rst ∧ s.busy = false ∧ t = resetBlock s) ∨
    (m ≠ .rst ∧ ∃ r, t = answer r s ∨ t = answerFree r s) := by
  cases m with
  | issue d => exact .inl ⟨d, rfl, h⟩
  | writeSrc a v =>
    simp only [perform, writeSrc] at h
    split at h
    · cases h
    · split at h
      · cases h
      · rename_i h1 _; injection h with h; exact .inr (.inl ⟨a, v, rfl, by omega, h.symm⟩)
  | readBusy =>
    injection h with h; exact .inr (.inr (.inr ⟨by simp, _, .inl h.symm⟩))
  | readRes =>
    injection h with h; exact .inr (.inr (.inr ⟨by simp, h ▸ answerRead_cases ..⟩))
  | readStgLines =>
    injection h with h; exact .inr (.inr (.inr ⟨by simp, h ▸ answerRead_cases ..⟩))
  | readStgFmt =>
    injection h with h; exact .inr (.inr (.inr ⟨by simp, h ▸ answerRead_cases ..⟩))
  | readRect =>
    injection h with h; exact .inr (.inr (.inr ⟨by simp, h ▸ answerRead_cases ..⟩))
  | rst =>
    simp only [perform, assertRst] at h
    split at h
    · cases h
    · rename_i hb; injection h with h; exact .inr (.inr (.inl ⟨rfl, by simpa using hb, h.symm⟩))

/-- When a host move is refused: a write outside SRC, a write that races with the operation in progress, or `rst` while
busy. No read and no issue is refused. -/
theorem perform_refused {m : HostMove} {s : State} {q : Refusal} (h : perform m s = .refused q) :
    (∃ a v, m = .writeSrc a v ∧ s.cfg.stageBytes ≤ a ∧ q = .srcWriteUnmapped a) ∨
    (∃ a v, m = .writeSrc a v ∧ a < s.cfg.stageBytes ∧ s.busy = true ∧ writeRaces s.dl a = true ∧ q = .srcWriteRace a) ∨
    (m = .rst ∧ s.busy = true ∧ q = .resetWhileBusy) := by
  cases m with
  | writeSrc a v =>
    simp only [perform, writeSrc] at h
    split at h
    · rename_i h1; injection h with h; exact .inl ⟨a, v, rfl, h1, h.symm⟩
    · split at h
      · rename_i h1 h2
        injection h with h
        simp only [Bool.and_eq_true] at h2
        exact .inr (.inl ⟨a, v, rfl, by omega, h2.1, h2.2, h.symm⟩)
      · cases h
  | issue d =>
    simp only [perform] at h
    rcases issue_cases d s with ⟨_, h'⟩ | ⟨_, _, h'⟩ | ⟨_, i, _, h'⟩ <;> rw [h'] at h
    · cases h
    · cases h
    · rcases exec_cases i (latch d s) with ⟨u, h2, _⟩ | ⟨f, _, _, _, _, _, h2⟩ <;> rw [h2] at h <;> cases h
  | readBusy => cases h
  | readRes => cases h
  | readStgLines => cases h
  | readStgFmt => cases h
  | readRect => cases h
  | rst =>
    simp only [perform, assertRst] at h
    split at h
    · rename_i hb; injection h with h; exact .inr (.inr ⟨rfl, hb, h.symm⟩)
    · cases h

end Sys2Proof.Machine
end

