-- ==== Sys2Proof/Laws/Memory.lean ====
section
/-! SUPPORT. The laws of SRC as data: reading after writing, the canonical form, the address range. -/

namespace Sys2Proof.Machine

@[simp] theorem Memory.read_nil (a : Nat) : Memory.read [] a = none := rfl

@[simp] theorem Memory.read_write_same (m : Memory) (a : Nat) (v : Byte) : Memory.read (Memory.write m a v) a = some v := by
  induction m with
  | nil => simp [Memory.write, Memory.read]
  | cons c m ih =>
    obtain ⟨b, w⟩ := c
    simp only [Memory.write]
    split
    · simp [Memory.read]
    · split
      · simp [Memory.read]
      · rename_i h1 h2; simp [Memory.read, h2, ih]

theorem Memory.read_write_other (m : Memory) {a b : Nat} (v : Byte) (h : b ≠ a) :
    Memory.read (Memory.write m a v) b = Memory.read m b := by
  induction m with
  | nil => simp [Memory.write, Memory.read, h, Memory.unlisted]
  | cons c m ih =>
    obtain ⟨k, w⟩ := c
    simp only [Memory.write]
    split
    · simp [Memory.read, h]
    · split
      · rename_i h2; subst h2; simp [Memory.read, h]
      · simp [Memory.read, ih]

/-- A bound below every address of a list stays one after a write at or above it. -/
theorem Memory.all_write (m : Memory) (a : Nat) (v : Byte) (p : Nat → Bool) (ha : p a = true)
    (h : m.all (fun c => p c.1) = true) : (Memory.write m a v).all (fun c => p c.1) = true := by
  induction m with
  | nil => simp [Memory.write, ha]
  | cons c m ih =>
    obtain ⟨k, w⟩ := c
    simp only [List.all_cons, Bool.and_eq_true] at h
    simp only [Memory.write]
    split
    · simp [ha, h.1, h.2]
    · split
      · simp [ha, h.2]
      · simp [h.1, ih h.2]

/-- Writing keeps the canonical form. -/
theorem Memory.write_wf (m : Memory) (a : Nat) (v : Byte) (h : Memory.wf m = true) : Memory.wf (Memory.write m a v) = true := by
  induction m with
  | nil => simp [Memory.write, Memory.wf]
  | cons c m ih =>
    obtain ⟨k, w⟩ := c
    simp only [Memory.wf, Bool.and_eq_true] at h
    simp only [Memory.write]
    split
    · rename_i hlt
      simp only [Memory.wf, List.all_cons, Bool.and_eq_true, decide_eq_true_eq]
      refine ⟨⟨hlt, ?_⟩, h⟩
      have := h.1
      simp only [List.all_eq_true, decide_eq_true_eq] at this ⊢
      exact fun x hx => Nat.lt_trans hlt (this x hx)
    · split
      · rename_i heq; subst heq; simp [Memory.wf, h.1, h.2]
      · rename_i h1 h2
        simp only [Memory.wf, Bool.and_eq_true]
        exact ⟨Memory.all_write m a v (fun x => decide (k < x)) (by simp; omega) h.1, ih h.2⟩

/-- Writing inside SRC keeps every address inside SRC. -/
theorem Memory.write_within (m : Memory) {size a : Nat} (v : Byte) (ha : a < size) (h : Memory.within size m = true) :
    Memory.within size (Memory.write m a v) = true :=
  Memory.all_write m a v (fun x => decide (x < size)) (by simpa using ha) h

/-- Canonical memories that read the same are the same list. -/
theorem Memory.ext_of_wf : ∀ {m n : Memory}, Memory.wf m = true → Memory.wf n = true →
    (∀ a, Memory.read m a = Memory.read n a) → m = n
  | [], [], _, _, _ => rfl
  | [], (b, w) :: n, _, _, h => by have := h b; simp [Memory.read, Memory.unlisted] at this
  | (b, w) :: m, [], _, _, h => by have := h b; simp [Memory.read, Memory.unlisted] at this
  | (b, w) :: m, (c, x) :: n, hm, hn, h => by
    simp only [Memory.wf, Bool.and_eq_true, List.all_eq_true, decide_eq_true_eq] at hm hn
    have low : ∀ (l : Memory) (k : Nat), (∀ y ∈ l, k < y.1) → ∀ a, a ≤ k → Memory.read l a = none := by
      intro l k
      induction l with
      | nil => intros; rfl
      | cons y l ih =>
        intro hl a ha
        have := hl y (List.mem_cons_self ..)
        obtain ⟨y1, y2⟩ := y
        simp only [Memory.read]
        rw [if_neg (by simp at this; omega)]
        exact ih (fun z hz => hl z (List.mem_cons_of_mem _ hz)) a ha
    have hbc : b = c := by
      rcases Nat.lt_trichotomy b c with hlt | heq | hgt
      · have := h b
        simp only [Memory.read, if_true, Nat.ne_of_lt hlt, if_false] at this
        rw [low n c hn.1 b (by omega)] at this; simp at this
      · exact heq
      · have := h c
        simp only [Memory.read, if_true, Nat.ne_of_lt hgt, if_false] at this
        rw [low m b hm.1 c (by omega)] at this; simp at this
    subst hbc
    have hw : w = x := by have := h b; simpa [Memory.read] using this
    subst hw
    congr 1
    refine Memory.ext_of_wf hm.2 hn.2 fun a => ?_
    by_cases hab : a = b
    · subst hab; rw [low m a hm.1 a le_rfl, low n a hn.1 a le_rfl]
    · have := h a; simpa [Memory.read, hab] using this

end Sys2Proof.Machine
end

