-- ==== Sys2Proof/Laws/PerInstr.lean ====
section
/-! SUPPORT. A statement about every instruction as syntax: the low byte of its descriptor is its operation code (spec
30_encoding.md R61, R63). One lemma per constructor. -/

namespace Sys2Proof.Laws

namespace EncodeOpcode

/-- The low byte of the descriptor is the instruction's operation code. -/
def Statement (i : Instr) : Prop := (encode i).opc = i.opcode

theorem setwin (r : Rect) : Statement (.setwin r) := build_opc ..
theorem fill (v : Nib) : Statement (.fill v) := build_opc ..
theorem tpat : Statement .tpat := build_opc ..
theorem flush8 (ctx : Bool) (r : Rect) (base : Nat) : Statement (.flush8 ctx r base) := build_opc ..
theorem flush16 (ctx : Bool) (r : Rect) (base : Nat) : Statement (.flush16 ctx r base) := build_opc ..
theorem round (r : Rect) : Statement (.round r) := build_opc ..
theorem setup (lines : Nat) (fmt : Fmt) : Statement (.setup lines fmt) := build_opc ..

end EncodeOpcode

end Sys2Proof.Laws
end

