-- ==== Sys2Proof/Laws/Streaming.lean ====
section
/-! SUPPORT. The shape of what STREAM emits, and how the trace views distribute over lists. -/

namespace Sys2Proof.Machine

theorem pack_toNat : ∀ a b : Nib, (pack a b).toNat = 16 * a.toNat + b.toNat := by decide

theorem ramWrite_eq (cfg : Config) : ramWrite cfg = optionalRamWrite cfg := by
  unfold ramWrite optionalRamWrite; cases cfg.opcRamWr <;> rfl

/-- The payloads of STREAM, top row first. -/
def packedRows (ax1 cy1 ax2 cy2 : Nat) (px : Nat → Nat → Nib) : List (List Byte) :=
  (List.range (cy2 - cy1 + 1)).map fun j => packedRow ax1 ax2 (cy1 + j) px

/-- STREAM is the optional RAM-write command and one `Data` per packed row. -/
theorem stream_eq (cfg : Config) (ax1 cy1 ax2 cy2 : Nat) (px : Nat → Nat → Nib) :
    stream cfg ax1 cy1 ax2 cy2 px = optionalRamWrite cfg ++ (packedRows ax1 cy1 ax2 cy2 px).map .data := by
  unfold stream packedRows; rw [ramWrite_eq]; simp [Function.comp_def]

@[simp] theorem packedRow_length (ax1 ax2 y : Nat) (px : Nat → Nat → Nib) :
    (packedRow ax1 ax2 y px).length = (ax2 - ax1 + 1) / 2 := by simp [packedRow]

@[simp] theorem packedRows_length (ax1 cy1 ax2 cy2 : Nat) (px : Nat → Nat → Nib) :
    (packedRows ax1 cy1 ax2 cy2 px).length = cy2 - cy1 + 1 := by simp [packedRows]

/-- Row `j` of STREAM. -/
theorem packedRows_getElem? {ax1 cy1 ax2 cy2 j : Nat} {px : Nat → Nat → Nib} (h : j < cy2 - cy1 + 1) :
    (packedRows ax1 cy1 ax2 cy2 px)[j]? = some (packedRow ax1 ax2 (cy1 + j) px) := by
  unfold packedRows; rw [List.getElem?_map, List.getElem?_range h]; rfl

/-- Byte `i` of a packed row. -/
theorem packedRow_getElem? {ax1 ax2 y i : Nat} {px : Nat → Nat → Nib} (h : i < (ax2 - ax1 + 1) / 2) :
    (packedRow ax1 ax2 y px)[i]? = some (pack (px (ax1 + 2 * i) y) (px (ax1 + 2 * i + 1) y)) := by
  unfold packedRow; rw [List.getElem?_map, List.getElem?_range h]; rfl

theorem acks_append (T U : List Event) : acks (T ++ U) = acks T + acks U := by
  induction T with
  | nil => simp [acks]
  | cons e T ih => cases e <;> simp [acks, ih]; omega

theorem payloads_append (T U : List Event) : payloads (T ++ U) = payloads T ++ payloads U := by
  induction T with
  | nil => rfl
  | cons e T ih => cases e <;> simp [payloads, ih]

theorem acks_map_data (rows : List (List Byte)) : acks (rows.map .data) = 0 := by
  induction rows with
  | nil => rfl
  | cons r rows ih => simpa [acks] using ih

theorem payloads_map_data (rows : List (List Byte)) : payloads (rows.map .data) = rows := by
  induction rows with
  | nil => rfl
  | cons r rows ih => simp [payloads, ih]

theorem controller_acceptAll_append (cfg : Config) (c : Controller) (T U : List Event) :
    c.acceptAll cfg (T ++ U) = (c.acceptAll cfg T).acceptAll cfg U := by
  simp [Controller.acceptAll]

/-- A window that has received nothing shows nothing. -/
theorem Window.pixel_of_empty (cfg : Config) {w : Window} (h : w.received = []) (x y : Nat) : w.pixel cfg x y = none := by
  unfold Window.pixel; rw [h]; simp

/-- Declaring a window leaves the RAM as it was. -/
theorem Controller.pixel_declare (cfg : Config) (c : Controller) {w : Window} (h : w.received = []) (x y : Nat) :
    (c.declare w).pixel cfg x y = c.pixel cfg x y := by
  simp only [Controller.pixel, Controller.declare]
  rw [List.findSome?_cons, Window.pixel_of_empty cfg h]

end Sys2Proof.Machine
end

