-- ==== Sys2Proof/Tests/Slice0.lean ====
section
/-! SUPPORT. Own tests: descriptors written out from spec 30_encoding.md R61, the source's examples and the derived vectors
of 95_test_vectors.md (S and V numbers below), the well-formedness smoke tests, and a witness for the hypotheses of each
statement. Expected values are the spec's, never the model's. -/

namespace Sys2Proof.Tests

open Sys2Proof Sys2Proof.Machine

/-! ### Helpers -/

/-- A rectangle from its four bounds. -/
def rc (x1 y1 x2 y2 : Int) : Rect := { x1 := x1, y1 := y1, x2 := x2, y2 := y2 }

/-- SRC holding these bytes from an address on, nothing else. -/
def srcFrom : Nat → List Byte → Memory
  | _, []      => []
  | a, b :: bs => (a, b) :: srcFrom (a + 1) bs

/-- The reset state of a configuration with SRC written. -/
def idle (cfg : Config) (m : Memory) : State := { State.resetWith cfg with src := m }

/-- The reset state of the reference configuration with one move of the host to come. -/
def withMove (m : HostMove) : State := { State.reset with host := [m] }

/-- The next state of an outcome. -/
def next? : Host.Outcome State Fault Refusal → Option State
  | .next t    => some t
  | .fault _   => none
  | .refused _ => none

/-- The fault of an outcome. -/
def fault? : Host.Outcome State Fault Refusal → Option Fault
  | .next _    => none
  | .fault f   => some f
  | .refused _ => none

/-- The refusal of an outcome. -/
def refusal? : Host.Outcome State Fault Refusal → Option Refusal
  | .next _    => none
  | .fault _   => none
  | .refused r => some r

/-- The trace an operation leaves from an idle block. -/
def traceOf (cfg : Config) (m : Memory) (i : Instr) : Option (List Event) := (next? (exec i (idle cfg m))).map State.trace

/-- RES and the trace after a step. -/
def after (s : State) : Option (Byte × List Event) := (next? (step s)).map fun t => (t.res, t.trace)

/-- The three commands before the data of the reference configuration, with these parameters. -/
def refHead (c1 c2 y1 y2 : Byte) : List Event := [.cmd 0x15#8 [c1, c2], .cmd 0x75#8 [y1, y2], .cmd 0x5C#8 []]

def bytesA : List Byte := [0x10#8, 0x2F#8, 0x30#8, 0x4F#8, 0x50#8, 0x6F#8, 0x70#8, 0x8F#8]

def bytes16 : List Byte :=
  [0xFF#8, 0xFF#8, 0x00#8, 0xF8#8, 0xE0#8, 0x07#8, 0x1F#8, 0x00#8, 0x10#8, 0x84#8, 0xEF#8, 0x7B#8,
   0x00#8, 0x00#8, 0xE0#8, 0xFF#8, 0xFF#8, 0x07#8, 0x1F#8, 0xF8#8, 0x34#8, 0x12#8, 0xCD#8, 0xAB#8]

/-! ### Decoding and encoding (V1) -/

theorem test_decode_setwin_full : decode 0x000000000000003F00FF000000000001#128 = .ok (.setwin (rc 0 0 255 63)) := by decide
theorem test_decode_setwin_negative : decode 0x00000000000000030003FFFBFFFB0001#128 = .ok (.setwin (rc (-5) (-5) 3 3)) := by decide
theorem test_decode_fill_white : decode 0x00000000000000000000000000000F02#128 = .ok (.fill 15#4) := by decide
theorem test_decode_tpat : decode 0x00000000000000000000000000000003#128 = .ok (.tpat) := by decide
theorem test_decode_flush8 : decode 0x000000000000000B0008000A00050104#128 = .ok (.flush8 true (rc 5 10 8 11) 0) := by decide
theorem test_decode_flush8_no_context : decode 0x000000000000000B0008000A00050004#128 = .ok (.flush8 false (rc 5 10 8 11) 0) := by decide
theorem test_decode_flush16 : decode 0x000000000010000B0009000A00040105#128 = .ok (.flush16 true (rc 4 10 9 11) 16) := by decide
theorem test_decode_round : decode 0x000000000000000B0008000A00050006#128 = .ok (.round (rc 5 10 8 11)) := by decide
theorem test_decode_round_extremes : decode 0x00000000000000007FFF000080000006#128 = .ok (.round (rc (-32768) 0 32767 0)) := by decide
theorem test_decode_setup : decode 0x00000000000000000000000000002207#128 = .ok (.setup 2 .rgb565) := by decide
theorem test_decode_setup_31 : decode 0x00000000000000000000000000003F07#128 = .ok (.setup 31 .rgb565) := by decide
theorem test_encode_setwin_negative : encode (.setwin (rc (-5) (-5) 3 3)) = 0x00000000000000030003FFFBFFFB0001#128 := by decide
theorem test_encode_fill_white : encode (.fill 15#4) = 0x00000000000000000000000000000F02#128 := by decide
theorem test_encode_tpat : encode (.tpat) = 0x00000000000000000000000000000003#128 := by decide
theorem test_encode_flush8 : encode (.flush8 true (rc 5 10 8 11) 0) = 0x000000000000000B0008000A00050104#128 := by decide
theorem test_encode_flush16 : encode (.flush16 true (rc 4 10 9 11) 16) = 0x000000000010000B0009000A00040105#128 := by decide
theorem test_encode_round_extremes : encode (.round (rc (-32768) 0 32767 0)) = 0x00000000000000007FFF000080000006#128 := by decide
theorem test_encode_setup : encode (.setup 2 .rgb565) = 0x00000000000000000000000000002207#128 := by decide

/-! Illegal descriptors (V1). -/

theorem test_illegal_opcode_00 : decode 0x00000000000000000000000000000000#128 = .error (.reservedOpcode 0x00#8) := by decide
theorem test_illegal_opcode_08 : decode 0x00000000000000000000000000000008#128 = .error (.reservedOpcode 0x08#8) := by decide
theorem test_illegal_opcode_FF : decode 0x000000000000000000000000000000FF#128 = .error (.reservedOpcode 0xFF#8) := by decide
theorem test_illegal_fill_arg : decode 0x00000000000000000000000000001502#128 = .error .argNotZero := by decide
theorem test_illegal_setwin_arg : decode 0x00000000000000010001000000000101#128 = .error .argNotZero := by decide
theorem test_illegal_tpat_x1 : decode 0x00000000000000000000000000010003#128 = .error .rectNotZero := by decide
theorem test_illegal_flush8_arg : decode 0x00000000000000010001000000000304#128 = .error .argNotZero := by decide
theorem test_illegal_flush16_rsv : decode 0x80000000000000010001000000000105#128 = .error .rsvNotZero := by decide
theorem test_illegal_setup_arg : decode 0x00000000000000000000000000004207#128 = .error .argNotZero := by decide
theorem test_illegal_round_base : decode 0x00000000000500010001000000000006#128 = .error .baseNotZero := by decide

/-! The assembler (R67, R68). -/

theorem test_assemble_default_context :
    assemble (.flush8 5 10 8 11 0 none) = some 0x000000000000000B0008000A00050104#128 := by decide
theorem test_assemble_black : assemble .black = some 0x00000000000000000000000000000002#128 := by decide
theorem test_assemble_white : assemble .white = some 0x00000000000000000000000000000F02#128 := by decide
theorem test_assemble_refuses_fill_16 : assemble (.fill 16) = none := by decide

/-! ### Well-formedness: an ill-formed term for each check -/

theorem test_wf_x1_low : (Instr.setwin (rc (-32769) 0 0 0)).wellFormed = false := by decide
theorem test_wf_y1_low : (Instr.round (rc 0 (-32769) 0 0)).wellFormed = false := by decide
theorem test_wf_x2_high : (Instr.flush8 true (rc 0 0 32768 0) 0).wellFormed = false := by decide
theorem test_wf_y2_high : (Instr.flush16 true (rc 0 0 0 32768) 0).wellFormed = false := by decide
theorem test_wf_base_high : (Instr.flush8 true (rc 0 0 0 0) (2 ^ 32)).wellFormed = false := by decide
theorem test_wf_base16_high : (Instr.flush16 true (rc 0 0 0 0) (2 ^ 32)).wellFormed = false := by decide
theorem test_wf_lines_high : (Instr.setup 32 .g8).wellFormed = false := by decide
theorem test_wf_extremes : (Instr.flush16 true (rc (-32768) (-32768) 32767 32767) (2 ^ 32 - 1)).wellFormed = true := by decide

/-! ### Configurations (R8): a violation of each constraint -/

theorem test_config_ref_valid : Config.ref.Valid := by decide
theorem test_config_q2_valid : Config.refQ2.Valid := by decide
theorem test_config_q3 : ¬ ({ Config.ref with q := 3 } : Config).Valid := by decide
theorem test_config_coloff_192 : ({ Config.ref with colOff := 192 } : Config).Valid := by decide
theorem test_config_coloff_193 : ¬ ({ Config.ref with colOff := 193 } : Config).Valid := by decide
theorem test_config_q2_coloff_129 : ¬ ({ Config.refQ2 with colOff := 129 } : Config).Valid := by decide
theorem test_config_weights : ¬ ({ Config.ref with wr := 78 } : Config).Valid := by decide
theorem test_config_same_opcodes : ¬ ({ Config.ref with opcSetRow := 0x15#8 } : Config).Valid := by decide
theorem test_config_ramwr_opcode : ¬ ({ Config.ref with opcRamWr := some 0x75#8 } : Config).Valid := by decide
theorem test_config_no_staging : ¬ ({ Config.ref with stageBytes := 0 } : Config).Valid := by decide
theorem test_config_refused :
    refusal? (step { State.reset with cfg := { Config.ref with q := 3 } }) = some .invalidConfig := by decide

/-! ### Pixels (V3 to V6) -/

theorem test_conv8 : [0x00#8, 0x0F#8, 0x10#8, 0x1F#8, 0x7F#8, 0x80#8, 0xEF#8, 0xF0#8, 0xFF#8].map conv8 =
    [0#4, 0#4, 1#4, 1#4, 7#4, 8#4, 14#4, 15#4, 15#4] := by decide
theorem test_expand5 : [1#5, 15#5, 16#5, 20#5, 30#5].map expand5 = [8#8, 123#8, 132#8, 165#8, 247#8] := by decide
theorem test_expand6 : [1#6, 16#6, 31#6, 32#6, 62#6].map expand6 = [4#8, 65#8, 125#8, 130#8, 251#8] := by decide
theorem test_conv16 : [0xFFE0#16, 0x07FF#16, 0xF81F#16, 0x7BEF#16, 0x1234#16, 0xABCD#16, 0x8000#16, 0x0400#16, 0x0010#16].map
    (conv16 Config.ref) = [14#4, 11#4, 6#4, 7#4, 3#4, 8#4, 2#4, 4#4, 0#4] := by decide
theorem test_luma_other_weights : luma { Config.ref with wr := 76, wg := 151 } 255#8 0#8 0#8 = 75 := by decide
theorem test_pack : pack 8#4 7#4 = 0x87#8 := by decide
theorem test_unpack : unpack 0x9A#8 = (9#4, 10#4) := by decide

/-! ### SETWIN (S1, V2) -/

theorem test_setwin_full : traceOf Config.ref [] (.setwin (rc 0 0 255 63)) =
    some [.cmd 0x15#8 [0x1C#8, 0x5B#8], .cmd 0x75#8 [0x00#8, 0x3F#8]] := by decide
theorem test_setwin_full_q2 : traceOf Config.refQ2 [] (.setwin (rc 0 0 255 63)) =
    some [.cmd 0x15#8 [0x00#8, 0x7F#8], .cmd 0x75#8 [0x00#8, 0x3F#8]] := by decide
theorem test_setwin_last_of_unit : traceOf Config.ref [] (.setwin (rc 3 7 3 7)) =
    some [.cmd 0x15#8 [0x1C#8, 0x1C#8], .cmd 0x75#8 [0x07#8, 0x07#8]] := by decide
theorem test_setwin_last_of_unit_q2 : traceOf Config.refQ2 [] (.setwin (rc 3 7 3 7)) =
    some [.cmd 0x15#8 [0x01#8, 0x01#8], .cmd 0x75#8 [0x07#8, 0x07#8]] := by decide
theorem test_setwin_clamped_right : traceOf Config.ref [] (.setwin (rc 250 60 300 70)) =
    some [.cmd 0x15#8 [0x5A#8, 0x5B#8], .cmd 0x75#8 [0x3C#8, 0x3F#8]] := by decide
theorem test_setwin_clamped_right_q2 : traceOf Config.refQ2 [] (.setwin (rc 250 60 300 70)) =
    some [.cmd 0x15#8 [0x7D#8, 0x7F#8], .cmd 0x75#8 [0x3C#8, 0x3F#8]] := by decide
theorem test_setwin_outside : traceOf Config.ref [] (.setwin (rc 256 0 300 10)) = some [] := by decide
theorem test_setwin_empty : traceOf Config.ref [] (.setwin (rc 10 5 9 5)) = some [] := by decide

/-! ### FILL and TPAT (S2, V9) -/

theorem test_fill_head : (traceOf Config.ref [] (.fill 5#4)).map (List.take 3) = some (refHead 0x1C#8 0x5B#8 0x00#8 0x3F#8) := by
  decide
theorem test_fill_length : (traceOf Config.ref [] (.fill 5#4)).map List.length = some 67 := by decide
theorem test_fill_row : packedRow 0 7 0 (fun _ _ => 10#4) = [0xAA#8, 0xAA#8, 0xAA#8, 0xAA#8] := by decide
theorem test_tpat_length_without_ramwr :
    (traceOf { Config.ref with opcRamWr := none } [] .tpat).map List.length = some 66 := by decide
theorem test_tpat_row_illustration : packedRow 12 19 0 (fun x _ => BitVec.ofNat 4 (x >>> 4)) = [0x00#8, 0x00#8, 0x11#8, 0x11#8] := by
  decide

/-! ### FLUSH8 (V7) -/

theorem test_flush8_a : traceOf Config.ref (srcFrom 0 bytesA) (.flush8 true (rc 5 10 8 11) 0) =
    some (refHead 0x1D#8 0x1E#8 0x0A#8 0x0B#8 ++ [.data [0x01#8, 0x23#8, 0x40#8, 0x00#8], .data [0x05#8, 0x67#8, 0x80#8, 0x00#8],
      .ack]) := by decide
theorem test_flush8_a_q2 : traceOf Config.refQ2 (srcFrom 0 bytesA) (.flush8 true (rc 5 10 8 11) 0) =
    some (refHead 0x02#8 0x04#8 0x0A#8 0x0B#8 ++ [.data [0x01#8, 0x23#8, 0x40#8], .data [0x05#8, 0x67#8, 0x80#8], .ack]) := by
  decide
theorem test_flush8_c_one_pixel : traceOf Config.ref [(3, 0xFF#8)] (.flush8 true (rc 7 0 7 0) 3) =
    some (refHead 0x1D#8 0x1D#8 0x00#8 0x00#8 ++ [.data [0x00#8, 0x0F#8], .ack]) := by decide
theorem test_flush8_d_clipped_top_left :
    traceOf Config.ref [(6, 0x3F#8), (7, 0x4F#8)] (.flush8 true (rc (-2) (-1) 1 0) 0) =
      some (refHead 0x1C#8 0x1C#8 0x00#8 0x00#8 ++ [.data [0x34#8, 0x00#8], .ack]) := by decide
theorem test_flush8_e_clipped_bottom_right :
    traceOf Config.ref [(0, 0x90#8), (1, 0xA0#8)] (.flush8 true (rc 254 63 257 64) 0) =
      some (refHead 0x5B#8 0x5B#8 0x3F#8 0x3F#8 ++ [.data [0x00#8, 0x9A#8], .ack]) := by decide
theorem test_flush8_f_outside : traceOf Config.ref [] (.flush8 true (rc 300 10 310 11) 0) = some [.ack] := by decide
theorem test_flush8_g_no_context : traceOf Config.ref [] (.flush8 false (rc 5 10 8 11) 0) = some [.ack] := by decide
theorem test_flush8_unwritten :
    fault? (exec (.flush8 true (rc 5 10 8 11) 0) (idle Config.ref [(0, 0x10#8)])) = some (.srcUnwritten 1) := by decide
theorem test_flush8_unmapped :
    fault? (exec (.flush8 true (rc 0 0 1 0) 8191) (idle Config.ref [(8191, 0x10#8)])) = some (.srcUnmapped 8192) := by decide

/-! ### FLUSH16 (V8) -/

theorem test_flush16_a : traceOf Config.ref (srcFrom 16 bytes16) (.flush16 true (rc 4 10 9 11) 16) =
    some (refHead 0x1D#8 0x1E#8 0x0A#8 0x0B#8 ++ [.data [0xF4#8, 0x91#8, 0x87#8, 0x00#8], .data [0x0E#8, 0xB6#8, 0x38#8, 0x00#8],
      .ack]) := by decide
theorem test_flush16_b_odd_base : traceOf Config.ref (srcFrom 1 [0xFF#8, 0xFF#8, 0x00#8, 0x00#8]) (.flush16 true (rc 2 0 3 0) 1) =
    some (refHead 0x1C#8 0x1C#8 0x00#8 0x00#8 ++ [.data [0x00#8, 0xF0#8], .ack]) := by decide
theorem test_flush16_big_endian :
    traceOf { Config.refQ2 with src16BE := true } (srcFrom 0 [0xF8#8, 0x00#8, 0x07#8, 0xE0#8]) (.flush16 true (rc 2 0 3 0) 0) =
      some (refHead 0x01#8 0x01#8 0x00#8 0x00#8 ++ [.data [0x49#8], .ack]) := by decide
theorem test_flush16_straddles_end :
    fault? (exec (.flush16 true (rc 0 0 0 0) 8191) (idle Config.ref [(8191, 0x10#8)])) = some (.srcUnmapped 8191) := by decide

/-! ### ROUND (V10) and SETUP (V11) -/

/-- RX1, RY1, RX2, RY2 after ROUND. -/
def rounded (r : Rect) : Option (Int × Int × Int × Int) :=
  (next? (exec (.round r) State.reset)).map fun t => (t.rx1.toInt, t.ry1.toInt, t.rx2.toInt, t.ry2.toInt)

theorem test_round_widens : rounded (rc 5 10 8 11) = some (4, 10, 9, 11) := by decide
theorem test_round_negative_odd : rounded (rc (-9) 0 (-4) 0) = some (0, 0, -3, 0) := by decide
theorem test_round_stays_degenerate : rounded (rc 300 0 310 5) = some (300, 0, 255, 5) := by decide
theorem test_round_y_passes : rounded (rc 0 (-5) 0 70) = some (0, -5, 1, 70) := by decide

/-- RES, STG_LINES and STG_FMT after SETUP. -/
def staged (lines : Nat) (fmt : Fmt) (s : State) : Option (Byte × Nat × Fmt) :=
  (next? (exec (.setup lines fmt) s)).map fun t => (t.res, t.stgLines.toNat, t.stgFmt)

theorem test_setup_16_rgb565 : staged 16 .rgb565 State.reset = some (0x00#8, 16, .rgb565) := by decide
theorem test_setup_17_keeps : staged 17 .g8 { State.reset with stgLines := 2#5, stgFmt := .rgb565 } = some (0x01#8, 2, .rgb565) := by
  decide
theorem test_setup_0_refused : staged 0 .g8 State.reset = some (0x01#8, 0, .g8) := by decide
theorem test_setup_small_capacity :
    staged 2 .rgb565 { State.reset with cfg := { Config.ref with stageBytes := 1023 } } = some (0x01#8, 0, .g8) := by decide

/-! ### One step: the host's moves (R173) and illegal descriptors (R141) -/

theorem test_step_issue_setwin : after (withMove (.issue 0x000000000000003F00FF000000000001#128)) =
    some (0x00#8, [.cmd 0x15#8 [0x1C#8, 0x5B#8], .cmd 0x75#8 [0x00#8, 0x3F#8]]) := by decide
theorem test_step_illegal_reserved : after (withMove (.issue 0x8#128)) = some (0x80#8, []) := by decide
theorem test_step_illegal_flush_acks : after (withMove (.issue 0x00000000000000010001000000000304#128)) =
    some (0x80#8, [.ack]) := by decide
theorem test_step_latches : (next? (step (withMove (.issue 0x8#128)))).map (fun t => (t.dl, t.busy, t.host)) =
    some (0x8#128, false, []) := by decide
theorem test_step_offer_while_busy :
    (next? (step { withMove (.issue 0x2#128) with busy := true })).map (fun t => (t.trace, t.dl, t.busy)) =
      some ([], 0x0#128, true) := by decide
theorem test_step_write_src : (next? (step (withMove (.writeSrc 8191 0x80#8)))).map (fun t => Memory.read t.src 8191) =
    some (some 0x80#8) := by decide
theorem test_step_write_outside : refusal? (step (withMove (.writeSrc 8192 0x80#8))) = some (.srcWriteUnmapped 8192) := by decide
theorem test_step_read_res : (next? (step { withMove .readRes with res := 0x01#8 })).map State.replies = some [.value (.res 0x01#8)] := by
  decide
theorem test_step_read_rect_before_round :
    (next? (step (withMove .readRect))).map (fun t => (t.replies.length, t.host)) = some (1, []) := by decide
theorem test_step_rst_busy : refusal? (step { withMove .rst with busy := true }) = some .resetWhileBusy := by decide
theorem test_step_rst : (next? (step { withMove .rst with res := 0x80#8, trace := [.ack], src := [(0, 1#8)] })).map
    (fun t => (t.res, t.trace, t.src)) = some (0x00#8, [], [(0, 1#8)]) := by decide
theorem test_step_waits : step State.reset = .next State.reset := rfl

/-- The table's word of a row with zero operands runs as the first instruction after reset. -/
theorem test_fetch_word_flush8 : after (State.reset.withFetchWord 128 4) = some (0x00#8, [.ack]) := by decide
theorem test_fetch_word_setup : after (State.reset.withFetchWord 128 7) = some (0x01#8, []) := by decide
theorem test_decode_table_word : decodeTableWord 128 0x0F02 = some (.fill 15#4) := by decide

/-! ### SRC as data -/

theorem test_memory_write_sorted : Memory.write [(1, 5#8), (4, 6#8)] 2 7#8 = [(1, 5#8), (2, 7#8), (4, 6#8)] := by decide
theorem test_memory_wf_refuses_repeat : Memory.wf [(1, 5#8), (1, 6#8)] = false := by decide

/-! ### Views of the trace (R45, R46) -/

theorem test_wire_cmd : wire (.cmd 0x15#8 [0x1C#8, 0x5B#8]) =
    [.csAssert, .shift false 0x15#8, .shift true 0x1C#8, .shift true 0x5B#8, .csRelease] := by decide
theorem test_flat_bytes : flatBytes [.cmd 0x5C#8 [], .data [0x55#8], .ack] = [(false, 0x5C#8), (true, 0x55#8)] := by decide
theorem test_data_bytes : dataBytes [.cmd 0x15#8 [0x1C#8, 0x5B#8], .data [0x55#8], .ack] = [0x55#8] := by decide

/-- P1, step 5: pixels (6,3) and (7,3) show 8 and 15, the margin (4,3) shows 0, (8,3) is not reached (R116). -/
theorem test_panel : [4, 6, 7, 8].map ((Controller.acceptAll Config.ref
      { window := { colStart := 0, colEnd := 0, rowStart := 0, rowEnd := 0, received := [] }, older := [] }
      (refHead 0x1D#8 0x1D#8 0x03#8 0x03#8 ++ [.data [0x00#8, 0x8F#8], .ack])).pixel Config.ref · 3) =
    [some 0#4, some 8#4, some 15#4, none] := by decide

/-- A second flush, to pixels 8..11 of the same row, leaves pixels 4..7 as the first one wrote them (R116). -/
theorem test_panel_keeps_older : [6, 7, 8, 12].map ((Controller.acceptAll Config.ref
      { window := { colStart := 0, colEnd := 0, rowStart := 0, rowEnd := 0, received := [] }, older := [] }
      (refHead 0x1D#8 0x1D#8 0x03#8 0x03#8 ++ [.data [0x00#8, 0x8F#8], .ack] ++
        refHead 0x1E#8 0x1E#8 0x03#8 0x03#8 ++ [.data [0x12#8, 0x34#8], .ack])).pixel Config.ref · 3) =
    [some 8#4, some 15#4, some 1#4, none] := by decide

/-! ### Witnesses: a state and operands that meet the hypotheses of each statement

Statements over one state with a legal configuration and a move to come. -/

theorem witness_ResetStateAsSpecified : (State.resetWith Config.ref).cfg.Valid := by decide
theorem witness_BlockResetOnlyWhileIdle :
    (withMove .rst).cfg.Valid ∧ (withMove .rst).host = [.rst] ∧ (withMove .rst).busy = false ∧
      ({ withMove .rst with busy := true } : State).busy = true := by decide
/-- Both directions: weights whose sum is above 256 are refused, also with no move left; CFG_REF is not. -/
theorem witness_InvalidConfigurationIsRefused :
    ¬ ({ Config.ref with wr := 78 } : Config).Valid ∧
      refusal? (step (State.resetWith { Config.ref with wr := 78 })) = some .invalidConfig ∧
      refusal? (step State.reset) = none ∧ Config.ref.Valid := by decide
theorem witness_StepRunsDecodedInstruction :
    (withMove (.issue 0x3#128)).cfg.Valid ∧ (withMove (.issue 0x3#128)).busy = false ∧
      (withMove (.issue 0x3#128)).host = [.issue 0x3#128] ∧ decode 0x3#128 = .ok .tpat := by decide
theorem witness_OfferWhileBusyHasNoEffect :
    ({ withMove (.issue 0x3#128) with busy := true } : State).busy = true ∧ (withMove (.issue 0x3#128)).cfg.Valid ∧
      State.reset.host = [] := by decide
theorem witness_IllegalDescriptorOutcome : (withMove (.issue 0x304#128)).cfg.Valid ∧ (withMove (.issue 0x304#128)).busy = false ∧
    (withMove (.issue 0x304#128)).host = [.issue 0x304#128] ∧ decode 0x304#128 = .error .argNotZero := by decide
theorem witness_IllegalDescriptorOutcome_no_flush :
    decode 0x8#128 = .error (.reservedOpcode 0x08#8) ∧ (0x8#128).extractLsb' 0 8 ≠ 0x04#8 ∧ (0x8#128).extractLsb' 0 8 ≠ 0x05#8 := by
  decide
theorem witness_EveryIssuedOperationEnds_fault :
    fault? (step (withMove (.issue 0x104#128))) = some (.srcUnwritten 0) := by decide
theorem witness_PriorityOfFailures :
    decode 0x4#128 = .ok (flushOp .g8 false (rc 0 0 0 0) 0) ∧ Degenerate (rc 300 10 310 11) ∧
      decode 0x000000000000000B0136000A012C0104#128 = .ok (flushOp .g8 true (rc 300 10 310 11) 0) ∧
      after (withMove (.issue 0x7#128)) = some (0x01#8, []) := by decide
theorem witness_DecodeEncodeRoundTrip : (Instr.setup 31 .rgb565).wellFormed = true := by decide
theorem witness_EncodeDecodeRoundTrip : decode 0x0F02#128 = .ok (.fill 15#4) := by decide
theorem witness_AssemblerMakesLegalDescriptors : assemble .tpat = some 0x3#128 ∧ CoordsFit (-32768) 0 32767 (-1) ∧
    ¬ CoordsFit 0 32768 0 0 ∧ assemble (.setwin 0 32768 0 0) = none := by
  refine ⟨by decide, ?_, ?_, by decide⟩ <;> unfold CoordsFit <;> decide
theorem witness_StepKeepsInvariant : Invariant State.reset ∧ next? (step State.reset) = some State.reset :=
  ⟨⟨by decide, rfl, rfl, rfl, .inl rfl, by decide⟩, rfl⟩
theorem witness_StepKeepsInvariant_write : (next? (step (withMove (.writeSrc 0 1#8)))).isSome = true := by decide
theorem witness_ConfigurationNeverChanges : (next? (step (withMove .rst))).isSome = true := by decide
theorem witness_OneAckPerFlushDescriptor :
    after (withMove (.issue 0x4#128)) = some (0x00#8, [.ack]) ∧ (0x4#128).extractLsb' 0 8 = 0x04#8 := by decide
theorem witness_OnlyIssueEmitsEvents : (next? (step (withMove .readBusy))).map State.trace = some [] ∧
    (next? (step (withMove (.issue 0x4#128)))).isSome = true := by decide
theorem witness_EachRegisterHasOneWriter :
    (next? (step (withMove (.issue 0x0000000000000000000000000006#128)))).map State.roundDone = some true ∧
      (next? (step (withMove (.issue 0x107#128)))).map State.stgLines = some 1#5 := by decide

/-! Geometry and pixels: boundary values. -/

theorem witness_ClampedRectangleIsIntersection : ¬ Degenerate (rc 255 63 300 70) ∧ ¬ Degenerate (rc (-5) (-5) 0 0) := by decide
theorem witness_AlignmentExpandsOutward : Config.ref.Valid ∧ alo Config.ref 255 = 252 ∧ ahi Config.ref 0 = 3 := by decide
theorem witness_AddressUnitsFitOneByte : Config.ref.Valid ∧ Config.ref.q = 4 ∧ colUnit Config.ref 255 = 0x5B := by decide
theorem witness_WindowDeclaresColumnsThenRows : Config.refQ2.Valid ∧ (0 : Nat) ≤ 255 ∧
    window Config.refQ2 0 0 255 63 = [.cmd 0x15#8 [0x00#8, 0x7F#8], .cmd 0x75#8 [0x00#8, 0x3F#8]] := by decide
theorem witness_WindowCoversAndIsMinimal : Config.ref.Valid ∧ colUnit Config.ref 5 ≤ 0x1E ∧ 0x1E ≤ colUnit Config.ref 8 := by decide
theorem witness_ConversionIsMonotone : (pixelR 0x1234#16).toNat ≤ (pixelR 0xABCD#16).toNat ∧
    (pixelG 0x1234#16).toNat ≤ (pixelG 0xABEF#16).toNat ∧ (pixelB 0x0001#16).toNat ≤ (pixelB 0xABCD#16).toNat := by decide
theorem witness_ConversionIsMonotone_same : Config.ref.Valid ∧ (pixelR 0x0000#16).toNat ≤ (pixelR 0xFFFF#16).toNat ∧
    (pixelG 0x0000#16).toNat ≤ (pixelG 0xFFFF#16).toNat ∧ (pixelB 0x0000#16).toNat ≤ (pixelB 0xFFFF#16).toNat := by decide
theorem witness_ColorPixelBytesAndFields : Config.ref.src16BE = false ∧
    ({ Config.ref with src16BE := true } : Config).src16BE = true := by decide
theorem witness_SampleFollowsSourceLayout : ¬ Degenerate (rc (-2) (-1) 1 0) ∧ clampY (-1) ≤ 0 ∧ 0 ≤ clampY 0 ∧
    pixelAddr .g8 (rc (-2) (-1) 1 0) 0 0 0 = 6 := by decide
theorem witness_SampleFollowsSourceLayout_margin : clampX (rc 5 10 8 11).x2 < 9 ∧ 4 < clampX (rc 5 10 8 11).x1 := by decide
theorem witness_StreamPacksRowsInRasterOrder : Config.ref.Valid ∧ Config.ref.q ∣ 252 ∧ Config.ref.q ∣ 255 + 1 := by decide

/-! Operations. -/

theorem witness_SetwinResult : State.reset.cfg.Valid ∧ Degenerate (rc 10 5 9 5) ∧ ¬ Degenerate (rc 0 0 255 63) := by decide
theorem witness_FillResult : State.reset.cfg.Valid ∧ (next? (exec (.fill 15#4) State.reset)).map State.res = some 0x00#8 := by decide
theorem witness_TpatResult : State.reset.cfg.Valid ∧ (next? (exec .tpat State.reset)).map State.res = some 0x00#8 := by decide
theorem witness_DegenerateRequestsAreSilent : Degenerate (rc 256 0 300 10) ∧ Degenerate (rc 0 64 10 70) := by decide

/-- One pixel at (7, 0), its byte at address 3: the source of a FLUSH8 is ready. -/
theorem witness_FlushStreamsConvertedPixels : (idle Config.ref [(3, 0xFF#8)]).cfg.Valid ∧ ¬ Degenerate (rc 7 0 7 0) ∧
    SourceReady (idle Config.ref [(3, 0xFF#8)]) .g8 (rc 7 0 7 0) 3 := by
  refine ⟨by decide, by decide, fun x y h1 h2 h3 h4 => ?_⟩
  have hx : x = 7 := Nat.le_antisymm h2 h1
  have hy : y = 0 := Nat.le_antisymm h4 h3
  subst hx hy
  refine ⟨by decide, fun k hk => ?_⟩
  have : k = 0 := by simpa [bpp] using hk
  subst this; decide

/-- The same for FLUSH16, whose two bytes are the last of SRC. -/
theorem witness_FlushStreamsConvertedPixels_rgb565 : (idle Config.ref [(8190, 0xFF#8), (8191, 0xFF#8)]).cfg.Valid ∧
    SourceReady (idle Config.ref [(8190, 0xFF#8), (8191, 0xFF#8)]) .rgb565 (rc 0 63 0 63) 8190 := by
  refine ⟨by decide, fun x y h1 h2 h3 h4 => ?_⟩
  have hx : x = 0 := Nat.le_antisymm h2 h1
  have hy : y = 63 := Nat.le_antisymm h4 h3
  subst hx hy
  refine ⟨by decide, fun k hk => ?_⟩
  have : k = 0 ∨ k = 1 := by simp only [bpp] at hk; omega
  rcases this with rfl | rfl <;> decide

theorem witness_FlushFaultsExactlyWhenSourceNotReady :
    fault? (exec (flushOp .rgb565 true (rc 0 0 0 0) 8191) (idle Config.ref [(8191, 0x10#8)])) = some (.srcUnmapped 8191) ∧
      fault? (exec (flushOp .g8 true (rc 0 0 0 0) 0) (idle Config.ref [])) = some (.srcUnwritten 0) := by decide

/-- A configuration of one staging byte, written: every byte of SRC is. -/
theorem witness_LargestSampledAddressDecides :
    let s := idle { Config.ref with stageBytes := 1 } [(0, 0xFF#8)]
    s.cfg.Valid ∧ ¬ Degenerate (rc 0 0 0 0) ∧ ∀ a, a < s.cfg.stageBytes → (Memory.read s.src a).isSome = true := by
  refine ⟨by decide, by decide, fun a ha => ?_⟩
  have : a = 0 := Nat.lt_one_iff.mp ha
  subst this; rfl

theorem witness_RegionInsideSrcNeverFaults :
    RegionInside Config.ref .g8 (rc 7 0 7 0) 8191 ∧ RegionWritten [(8191, 0xFF#8)] .g8 (rc 7 0 7 0) 8191 := by
  refine ⟨by unfold RegionInside; decide, fun a ha => ?_⟩
  have : a = 8191 := by
    have h1 := ha.1; have h2 := ha.2
    simp only [bpp, rc] at h2; omega
  subst this; rfl

theorem witness_RoundResult : (rc (-32768) (-32768) 32767 32767).wellFormed = true := by decide
theorem witness_HostReadsRoundedRectangle : State.reset.cfg.Valid ∧
    (next? (exec (.round (rc 5 10 8 11)) State.reset)).isSome = true := by decide
theorem witness_RoundAlignsPixelPairs : (rc 254 0 255 0).wellFormed = true ∧ (0 : Int) ≤ (rc 254 0 255 0).x1 ∧
    (rc 254 0 255 0).x1 ≤ (rc 254 0 255 0).x2 ∧ (rc 254 0 255 0).x2 ≤ 255 ∧
    (next? (exec (.round (rc 254 0 255 0)) State.reset)).isSome = true := by decide
theorem witness_SetupResult : SetupAccepts Config.ref 16 .rgb565 ∧ ¬ SetupAccepts Config.ref 17 .g8 := by decide
theorem witness_FullCapacityAcceptsEveryLineCount : State.reset.cfg.stageBytes = 256 * 16 * 2 ∧
    (next? (exec (.setup 16 .rgb565) State.reset)).isSome = true := by decide
theorem witness_BusOperationsFrame : (next? (exec (.setwin (rc 0 0 0 0)) State.reset)).isSome = true ∧
    (next? (exec (.fill 0#4) State.reset)).isSome = true ∧ (next? (exec .tpat State.reset)).isSome = true ∧
    (next? (exec (.flush8 true (rc 7 0 7 0) 3) (idle Config.ref [(3, 0xFF#8)]))).isSome = true ∧
    (next? (exec (.flush16 true (rc 0 0 0 0) 0) (idle Config.ref [(0, 1#8), (1, 2#8)]))).isSome = true := by decide
theorem witness_ConfigurationOperationsFrame : (next? (exec (.round (rc 0 0 0 0)) State.reset)).isSome = true ∧
    (next? (exec (.setup 1 .g8) State.reset)).isSome = true := by decide
theorem witness_DataCountsMatchDeclaredWindow : Config.ref.Valid ∧ ¬ Degenerate (rc 7 0 7 0) ∧
    (next? (exec (flushOp .g8 true (rc 7 0 7 0) 3) (idle Config.ref [(3, 0xFF#8)]))).isSome = true ∧
    (next? (exec .tpat State.reset)).isSome = true := by decide
theorem witness_PanelShowsSamples : Config.ref.Valid ∧ ¬ Degenerate (rc 7 0 7 0) ∧
    (next? (exec (flushOp .g8 true (rc 7 0 7 0) 3) (idle Config.ref [(3, 0xFF#8)]))).isSome = true := by decide

/-- An SRC that differs at an address the flush does not sample. -/
theorem witness_UnsampledSourceBytesAreInvisible : ∀ x y k, clampX (rc 7 0 7 0).x1 ≤ x → x ≤ clampX (rc 7 0 7 0).x2 →
    clampY (rc 7 0 7 0).y1 ≤ y → y ≤ clampY (rc 7 0 7 0).y2 → k < bpp .g8 →
    Memory.read [(2, 0x11#8), (3, 0xFF#8)] (pixelAddr .g8 (rc 7 0 7 0) 3 x y + k) =
      Memory.read (idle Config.ref [(3, 0xFF#8)]).src (pixelAddr .g8 (rc 7 0 7 0) 3 x y + k) := by
  intro x y k h1 h2 h3 h4 hk
  have hx : x = 7 := Nat.le_antisymm h2 h1
  have hy : y = 0 := Nat.le_antisymm h4 h3
  have hk0 : k = 0 := by simpa [bpp] using hk
  subst hx hy hk0; decide

theorem witness_ResultRegistersInfluenceNothing : (next? (exec (.fill 0#4) State.reset)).isSome = true ∧
    (fault? (exec (.flush8 true (rc 0 0 0 0) 0) State.reset)).isSome = true := by decide

/-! The host's other moves. -/

theorem witness_HostWriteStoresOneByte : (withMove (.writeSrc 8191 1#8)).cfg.Valid ∧ (withMove (.writeSrc 8191 1#8)).busy = false ∧
    8191 < (withMove (.writeSrc 8191 1#8)).cfg.stageBytes := by decide
theorem witness_HostReadsAnswerRegisters :
    (next? (step { withMove .readRect with roundDone := true, rx1 := 4#16 })).map State.replies = some [.value (.rect 4#16 0#16 0#16 0#16)] ∧
      (next? (step { withMove .readBusy with busy := true })).map State.replies = some [.value (.busy true)] := by decide
theorem witness_HostReadsAnswerRegisters_busy :
    ({ withMove .readRect with busy := true, roundDone := true } : State).cfg.Valid ∧
      (next? (step { withMove .readRes with busy := true })).isSome = true ∧
      (next? (step { withMove .readStgLines with busy := true })).isSome = true ∧
      (next? (step { withMove .readStgFmt with busy := true })).isSome = true ∧
      (next? (step { withMove .readRect with busy := true, roundDone := true })).isSome = true ∧
      (withMove .readRect).roundDone = false ∧ (next? (step (withMove .readRect))).isSome = true := by decide
theorem witness_UnavailableMovesAreRefused :
    refusal? (step (withMove (.writeSrc 8192 0#8))) = some (.srcWriteUnmapped 8192) ∧
      refusal? (step { withMove .rst with busy := true }) = some .resetWhileBusy ∧
      HostMove.available .readRect { withMove .readRect with roundDone := true } = true ∧
      HostMove.available .readRect (withMove .readRect) = false ∧ HostMove.available .readBusy { State.reset with busy := true } = true ∧
      State.reset.cfg.stageBytes ≤ 8192 := by decide

/-- A FLUSH8 of one pixel at SRC address 3 in progress. -/
def midFlush (a : Nat) : State := { withMove (.writeSrc a 1#8) with busy := true, dl := encode (.flush8 true (rc 7 0 7 0) 3) }

theorem witness_SourceIsStableDuringFlush : (midFlush 3).cfg.Valid ∧ (midFlush 3).busy = true ∧
    decode (midFlush 3).dl = .ok (flushOp .g8 true (rc 7 0 7 0) 3) ∧ InSourceRegion .g8 (rc 7 0 7 0) 3 3 ∧
    ¬ InSourceRegion .g8 (rc 7 0 7 0) 3 4 ∧ ¬ InSourceRegion .g8 (rc 7 0 7 0) 3 2 := by decide

/-- TPAT in progress: no flush, so no SRC byte may be written. -/
theorem witness_SourceIsStableDuringFlush_no_flush :
    (∀ fmt ctx r base, decode (encode .tpat) ≠ .ok (flushOp fmt ctx r base)) ∧
      refusal? (step { midFlush 4 with dl := encode .tpat }) = some (.srcWriteRace 4) := by
  refine ⟨fun fmt ctx r base h => ?_, by decide⟩
  have hd : decode (encode .tpat) = .ok .tpat := by decide
  rw [hd] at h
  cases fmt <;> cases h

theorem test_write_race : refusal? (step (midFlush 3)) = some (.srcWriteRace 3) := by decide
theorem test_write_beside_region : (next? (step (midFlush 4))).map (fun t => Memory.read t.src 4) = some (some 1#8) := by decide

end Sys2Proof.Tests
end

section
/-! Row addressing: when a rectangle is degenerate, the bytes of a window, and SETWIN (spec 40_addressing.md R80 to R88). -/

namespace Sys2Proof.Proofs

open Sys2Proof Sys2Proof.Machine

/-- R81: the clamped corners of a rectangle that is not degenerate are its intersection with the panel. -/
theorem clamped_eq_intersection {r : Rect} (h : ¬ Degenerate r) :
    (clampX r.x1 : Int) = max r.x1 0 ∧ (clampX r.x2 : Int) = min r.x2 255 ∧
      (clampY r.y1 : Int) = max r.y1 0 ∧ (clampY r.y2 : Int) = min r.y2 63 := by
  rw [degenerate_iff] at h
  rw [clampX_cast, clampX_cast, clampY_cast, clampY_cast]
  omega

/-- R80: a degenerate rectangle holds no pixel of the panel. -/
theorem no_panel_pixel_of_degenerate {r : Rect} (h : Degenerate r) :
    ¬ ∃ x y : Int, 0 ≤ x ∧ x ≤ 255 ∧ 0 ≤ y ∧ y ≤ 63 ∧ r.x1 ≤ x ∧ x ≤ r.x2 ∧ r.y1 ≤ y ∧ y ≤ r.y2 := by
  rintro ⟨x, y, hpixel⟩
  rw [degenerate_iff] at h
  omega

/-- R80, R81: the clamped upper-left corner is a panel pixel of a rectangle that is not degenerate. -/
theorem panel_pixel_of_not_degenerate {r : Rect} (h : ¬ Degenerate r) :
    ∃ x y : Int, 0 ≤ x ∧ x ≤ 255 ∧ 0 ≤ y ∧ y ≤ 63 ∧ r.x1 ≤ x ∧ x ≤ r.x2 ∧ r.y1 ≤ y ∧ y ≤ r.y2 := by
  obtain ⟨hx, hy, hx1, hy1, hx2, hy2⟩ := clamped_order h
  have := clampX_le r.x1; have := clampY_le r.y1
  exact ⟨clampX r.x1, clampY r.y1, by omega⟩

/-- Settles O20: the six comparisons are the definition, and they fail exactly when the clamped corner is a pixel of both. -/
theorem degenerateMeansNoPanelPixel : Obligations.DegenerateMeansNoPanelPixel := fun r =>
  ⟨degenerate_iff r, no_panel_pixel_of_degenerate, fun hnone => by_contra fun h => hnone (panel_pixel_of_not_degenerate h)⟩

/-- R83: a column address unit of the panel fits one byte. -/
theorem colUnit_le_255 {cfg : Config} (hv : cfg.Valid) {x : Nat} (hx : x ≤ 255) : colUnit cfg x ≤ 255 := by
  have hunit : x / cfg.q ≤ (panelW - 1) / cfg.q := Nat.div_le_div_right hx
  have hfit := hv.2.1
  unfold colUnit; omega

/-- R83: the byte of a column address unit is the unit, without truncation. -/
theorem toNat_colUnit_byte {cfg : Config} (hv : cfg.Valid) {x : Nat} (hx : x ≤ 255) :
    (BitVec.ofNat 8 (colUnit cfg x)).toNat = x / cfg.q + cfg.colOff :=
  toNat_ofNat_byte (colUnit_le_255 hv hx)

/-- R84: the byte of a row address unit is the row. -/
theorem toNat_rowUnit_byte {y : Nat} (hy : y ≤ 63) : (BitVec.ofNat 8 (rowUnit y)).toNat = y :=
  toNat_ofNat_byte (Nat.le_trans hy (by decide))

/-- An operation that only emits events leaves the rectangle and staging registers, the surroundings and SRC. -/
theorem complete_emit_frame (code : Byte) (es : List Event) (s : State) :
    SameRect s (complete code (emit es s)) ∧ SameStaging s (complete code (emit es s)) ∧
      SameSurroundings s (complete code (emit es s)) ∧ SameSrc s (complete code (emit es s)) :=
  ⟨⟨rfl, rfl, rfl, rfl, rfl⟩, ⟨rfl, rfl⟩, ⟨rfl, rfl, rfl, rfl⟩, fun _ => rfl⟩

/-- The events of SETWIN (R88). -/
def setwinEvents (cfg : Config) (r : Rect) : List Event :=
  if Degenerate r then [] else window cfg (clampX r.x1) (clampY r.y1) (clampX r.x2) (clampY r.y2)

/-- SETWIN completes after emitting its events. -/
theorem exec_setwin (r : Rect) (s : State) :
    exec (.setwin r) s = .next (complete resOk (emit (setwinEvents s.cfg r) s)) := rfl

theorem setwinEvents_degenerate (cfg : Config) {r : Rect} (h : Degenerate r) : setwinEvents cfg r = [] := if_pos h

/-- R85, R88: the column command holds the address units of the clamped columns, the row command the clamped rows. -/
theorem setwinEvents_window {cfg : Config} (hv : cfg.Valid) {r : Rect} (h : ¬ Degenerate r) :
    ∃ cs ce ys ye : Byte, setwinEvents cfg r = [.cmd cfg.opcSetCol [cs, ce], .cmd cfg.opcSetRow [ys, ye]] ∧
      (cs.toNat : Int) = max r.x1 0 / (cfg.q : Int) + cfg.colOff ∧
      (ce.toNat : Int) = min r.x2 255 / (cfg.q : Int) + cfg.colOff ∧
      (ys.toNat : Int) = max r.y1 0 ∧ (ye.toNat : Int) = min r.y2 63 := by
  obtain ⟨hx1, hx2, hy1, hy2⟩ := clamped_eq_intersection h
  refine ⟨_, _, _, _, if_neg h, ?_, ?_, ?_, ?_⟩
  · rw [toNat_colUnit_byte hv (clampX_le r.x1), ← hx1]; rfl
  · rw [toNat_colUnit_byte hv (clampX_le r.x2), ← hx2]; rfl
  · rw [toNat_rowUnit_byte (clampY_le r.y1), hy1]
  · rw [toNat_rowUnit_byte (clampY_le r.y2), hy2]

/-- Settles O35: SETWIN only emits, and its events are none or the window of the clamped rectangle. -/
theorem setwinResult : Obligations.SetwinResult := by
  intro r s hv
  obtain ⟨hrect, hstg, hsur, hsrc⟩ := complete_emit_frame resOk (setwinEvents s.cfg r) s
  refine ⟨_, exec_setwin r s, rfl, rfl, hrect, hstg, hsur, hsrc, fun hd => ?_, fun hd => ?_⟩
  · simp [setwinEvents_degenerate s.cfg hd]
  · obtain ⟨cs, ce, ys, ye, hevents, hbytes⟩ := setwinEvents_window hv hd
    exact ⟨cs, ce, ys, ye, by simp [hevents], hbytes⟩

end Sys2Proof.Proofs
end

section
/-! Pixel pipeline: the high nibble, packing, and FILL (spec 41_pixel_pipeline.md R101 to R109). -/

namespace Sys2Proof.Proofs

open Sys2Proof Sys2Proof.Machine

/-- R101: the high nibble of a byte is the byte shifted right by 4; nothing above it is lost. -/
theorem toNat_conv8 (b : Byte) : (conv8 b).toNat = b.toNat >>> 4 := by
  have hb : b.toNat < 256 := b.isLt
  rw [conv8, BitVec.extractLsb'_toNat, Nat.shiftRight_eq_div_pow]
  omega

/-- Settles O26: `conv8` extracts bits 7 to 4. -/
theorem grayPixelIsHighNibble : Obligations.GrayPixelIsHighNibble := toNat_conv8

/-- R106: the left pixel of UNPACK is the nibble CONV8 keeps. -/
theorem unpack_fst (v : Byte) : (unpack v).1 = conv8 v := rfl

/-- R106: the right pixel of UNPACK is the byte's low four bits. -/
theorem toNat_unpack_snd (v : Byte) : (unpack v).2.toNat = v.toNat &&& 15 := by
  rw [unpack, BitVec.extractLsb'_toNat, Nat.shiftRight_zero, ← Nat.and_two_pow_sub_one_eq_mod]

/-- R106: UNPACK undoes PACK. -/
theorem unpack_pack (a b : Nib) : unpack (pack a b) = (a, b) := by
  have ha : (pack a b).extractLsb' 4 4 = a := BitVec.extractLsb'_append_eq_left
  have hb : (pack a b).extractLsb' 0 4 = b := BitVec.extractLsb'_append_eq_right
  rw [unpack, ha, hb]

/-- R106: PACK undoes UNPACK. -/
theorem pack_unpack (v : Byte) : pack (unpack v).1 (unpack v).2 = v := by
  apply BitVec.eq_of_toNat_eq
  rw [pack_toNat, unpack_fst, toNat_conv8, toNat_unpack_snd, Nat.shiftRight_eq_div_pow,
    Nat.and_two_pow_sub_one_eq_mod v.toNat 4]
  exact Nat.div_add_mod v.toNat 16

/-- Settles O28: PACK appends its nibbles, and UNPACK takes them apart again. -/
theorem packUnpackRoundTrip : Obligations.PackUnpackRoundTrip :=
  ⟨fun a b => ⟨BitVec.toNat_append a b, unpack_pack a b⟩,
    fun v => ⟨toNat_conv8 v, toNat_unpack_snd v, pack_unpack v⟩, by decide⟩

/-- R85, R109: the window of the full panel, in address units that fit their bytes. -/
theorem window_fullPanel {cfg : Config} (hv : cfg.Valid) :
    ∃ cs ce : Byte, cs.toNat = cfg.colOff ∧ ce.toNat = cfg.colOff + 255 / cfg.q ∧
      window cfg 0 0 (panelW - 1) (panelH - 1) = [.cmd cfg.opcSetCol [cs, ce], .cmd cfg.opcSetRow [0x00#8, 0x3F#8]] := by
  refine ⟨_, _, ?_, ?_, rfl⟩
  · rw [toNat_colUnit_byte hv (by omega), Nat.zero_div, Nat.zero_add]
  · rw [toNat_colUnit_byte hv (by decide), Nat.add_comm, panelW_eq]

/-- R109, R110: the events of an operation on the full panel: the window, the optional RAM-write command, the packed rows. -/
theorem fullPanel_eq (cfg : Config) (px : Nat → Nat → Nib) :
    fullPanel cfg px = window cfg 0 0 (panelW - 1) (panelH - 1) ++ optionalRamWrite cfg ++
      (packedRows 0 0 (panelW - 1) (panelH - 1) px).map .data := by
  rw [fullPanel, stream_eq, List.append_assoc]

/-- R108: where every pixel has the same gray value, so has every byte. -/
theorem packedRow_const (ax1 ax2 y : Nat) (v : Nib) :
    packedRow ax1 ax2 y (fun _ _ => v) = List.replicate ((ax2 - ax1 + 1) / 2) (pack v v) := by
  rw [packedRow, List.map_const', List.length_range]

/-- R108: where every pixel has the same gray value, the rows are all alike. -/
theorem packedRows_const (ax1 cy1 ax2 cy2 : Nat) (v : Nib) :
    packedRows ax1 cy1 ax2 cy2 (fun _ _ => v) =
      List.replicate (cy2 - cy1 + 1) (List.replicate ((ax2 - ax1 + 1) / 2) (pack v v)) := by
  simp only [packedRows, packedRow_const, List.map_const', List.length_range]

/-- R109: the byte of two pixels of the same gray value. -/
theorem toNat_pack_self (v : Nib) : (pack v v).toNat = 17 * v.toNat := by
  rw [pack_toNat]; omega

/-- R109: the events of FILL. -/
theorem fullPanel_const (cfg : Config) (v : Nib) :
    fullPanel cfg (fun _ _ => v) = window cfg 0 0 (panelW - 1) (panelH - 1) ++ optionalRamWrite cfg ++
      List.replicate 64 (.data (List.replicate 128 (pack v v))) := by
  rw [fullPanel_eq, packedRows_const, List.map_replicate]; rfl

/-- FILL completes after emitting the full panel of one gray value. -/
theorem exec_fill (v : Nib) (s : State) :
    exec (.fill v) s = .next (complete resOk (emit (fullPanel s.cfg fun _ _ => v) s)) := rfl

/-- Settles O36: FILL only emits, and its events are the full window and constant rows. -/
theorem fillResult : Obligations.FillResult := by
  intro v s hv
  obtain ⟨hrect, hstg, hsur, hsrc⟩ := complete_emit_frame resOk (fullPanel s.cfg fun _ _ => v) s
  obtain ⟨cs, ce, hcs, hce, hwindow⟩ := window_fullPanel hv
  refine ⟨_, exec_fill v s, rfl, rfl, hrect, hstg, hsur, hsrc, cs, ce, pack v v, hcs, hce, toNat_pack_self v, ?_⟩
  rw [complete_trace, emit_trace, fullPanel_const, hwindow]

end Sys2Proof.Proofs
end

section
/-! Exceptions: illegal descriptors, silent requests, and the order of the failures (spec 60_exceptions.md R141 to R149). -/

namespace Sys2Proof.Proofs

open Sys2Proof Sys2Proof.Machine

/-- R21, R141: an accepted descriptor that the decoder rejects is taken as illegal, in the one step of its issue. -/
theorem step_issue_illegal {s : State} {d : Desc} {ms : List HostMove} {e : Reject} (hv : s.cfg.Valid)
    (hidle : s.busy = false) (hh : s.host = .issue d :: ms) (hd : decode d = .error e) :
    step s = .next (takeIllegal d (latch d (dropMove ms s))) := by
  rw [step_eq_perform hv hh]
  simp [perform, issue, hidle, hd]

/-- R21, R34: the step that accepts a legal descriptor is its operation on the latched state. -/
theorem step_issue_legal {s : State} {d : Desc} {ms : List HostMove} {i : Instr} (hv : s.cfg.Valid)
    (hidle : s.busy = false) (hh : s.host = .issue d :: ms) (hd : decode d = .ok i) :
    step s = exec i (latch d (dropMove ms s)) := by
  rw [step_eq_perform hv hh]
  simp [perform, issue, hidle, hd]

theorem isFlushOpc_iff (d : Desc) : isFlushOpc d = true ↔ d.opc = 0x04#8 ∨ d.opc = 0x05#8 := by
  simp [isFlushOpc]

/-- R141: a flush's code makes an illegal descriptor emit one `Ack`. -/
theorem takeIllegal_trace_flush {d : Desc} (h : d.opc = 0x04#8 ∨ d.opc = 0x05#8) (s : State) :
    (takeIllegal d s).trace = s.trace ++ [.ack] := by
  rw [takeIllegal_trace, if_pos ((isFlushOpc_iff d).mpr h)]

/-- R141: any other code makes an illegal descriptor emit nothing. -/
theorem takeIllegal_trace_other {d : Desc} (h4 : d.opc ≠ 0x04#8) (h5 : d.opc ≠ 0x05#8) (s : State) :
    (takeIllegal d s).trace = s.trace := by
  have hother : ¬ isFlushOpc d = true := fun h => ((isFlushOpc_iff d).mp h).elim h4 h5
  rw [takeIllegal_trace, if_neg hother, List.append_nil]

/-- R143, R144: a flush without context, or of a degenerate rectangle, completes after one `Ack` and reads nothing. -/
theorem exec_flushOp_silent {ctx : Bool} {r : Rect} (h : ctx = false ∨ Degenerate r) (fmt : Fmt) (base : Nat) (s : State) :
    exec (flushOp fmt ctx r base) s = .next (complete resOk (emit [.ack] s)) := by
  rw [exec_flushOp]
  rcases flushCore_cases fmt ctx r base s with ⟨-, hack⟩ | ⟨hctx, hlive, -⟩ | ⟨hctx, hlive, -⟩
  · exact hack
  all_goals simp [hctx, hlive] at h

/-- R149: only a flush that has its context and a rectangle on the panel can fault. -/
theorem exec_fault {i : Instr} {s : State} {f : Fault} (h : exec i s = .fault f) :
    ∃ fmt r base, i = flushOp fmt true r base ∧ ¬ Degenerate r := by
  obtain ⟨t, hnext, -⟩ | ⟨_, fmt, ctx, r, base, rfl, -⟩ := exec_cases i s
  · rw [hnext] at h; cases h
  · have hlive : ¬ (ctx = false ∨ Degenerate r) := fun hsilent => by
      rw [exec_flushOp_silent hsilent] at h; cases h
    rw [not_or, Bool.not_eq_false] at hlive
    obtain ⟨rfl, hd⟩ := hlive
    exact ⟨fmt, r, base, rfl, hd⟩

/-- R28: a flush that completes leaves RES = OK. -/
theorem flushCore_res {fmt : Fmt} {ctx : Bool} {r : Rect} {base : Nat} {s t : State}
    (h : flushCore fmt ctx r base s = .next t) : t.res = resOk := by
  rcases flushCore_cases fmt ctx r base s with ⟨-, h'⟩ | ⟨-, -, f, -, h'⟩ | ⟨-, -, -, h'⟩ <;> rw [h'] at h <;> cases h
  · exact complete_res ..
  · exact complete_res ..

/-- R28, R149: every legal operation but SETUP leaves RES = OK when it completes. -/
theorem exec_res_ok_or_setup {i : Instr} {s t : State} (h : exec i s = .next t) :
    t.res = resOk ∨ ∃ lines fmt, i = .setup lines fmt := by
  cases i with
  | setwin r => cases h; exact .inl (complete_res ..)
  | fill v => cases h; exact .inl (complete_res ..)
  | tpat => cases h; exact .inl (complete_res ..)
  | flush8 ctx r base => exact .inl (flushCore_res h)
  | flush16 ctx r base => exact .inl (flushCore_res h)
  | round r => cases h; exact .inl (complete_res ..)
  | setup lines fmt => exact .inr ⟨lines, fmt, rfl⟩

/-- Settles O38: without its context a flush takes the early exit. -/
theorem flushWithoutContextOnlyAcks : Obligations.FlushWithoutContextOnlyAcks := fun fmt r base s =>
  ⟨_, exec_flushOp_silent (.inl rfl) fmt base s, rfl, rfl, rfl, fun _ => rfl⟩

/-- Settles O39: a degenerate SETWIN has no events, and a degenerate flush takes the early exit. -/
theorem degenerateRequestsAreSilent : Obligations.DegenerateRequestsAreSilent := by
  intro r s hd
  refine ⟨⟨_, exec_setwin r s, ?_, rfl⟩, fun fmt ctx base => ⟨_, exec_flushOp_silent (.inr hd) fmt base s, rfl, rfl⟩⟩
  simp [setwinEvents_degenerate s.cfg hd]

/-- Settles O6: an illegal descriptor only emits, and its code decides what. -/
theorem illegalDescriptorOutcome : Obligations.IllegalDescriptorOutcome := by
  intro s d ms e hv hidle hh hd
  obtain ⟨hrect, hstg, ⟨hcfg, hdl, hhost, hreplies⟩, hsrc⟩ :=
    complete_emit_frame resIllegal (if isFlushOpc d then [.ack] else []) (latch d (dropMove ms s))
  exact ⟨_, step_issue_illegal hv hidle hh hd, rfl, rfl, fun hflush => takeIllegal_trace_flush hflush _,
    fun h4 h5 => takeIllegal_trace_other h4 h5 _, hrect, hstg, hsrc, hcfg, hdl, hhost, hreplies⟩

/-- Settles O8: the decoder rejects before any operation runs, and a silent flush ends before it samples; a fault and
RES = 0x01 are traced back to the operations that can end so. -/
theorem priorityOfFailures : Obligations.PriorityOfFailures := by
  intro s d ms hv hidle hh
  have hillegal {e} (hd : decode d = .error e) := step_issue_illegal hv hidle hh hd
  have hlegal {i} (hd : decode d = .ok i) := step_issue_legal hv hidle hh hd
  refine ⟨fun e hd => ⟨_, hillegal hd, rfl⟩, fun fmt _ base hd => ?_, fun fmt r base hd hdeg => ?_, fun f hf => ?_,
    fun t ht hres => ?_⟩
  · exact ⟨_, (hlegal hd).trans (exec_flushOp_silent (.inl rfl) fmt base _), rfl, rfl⟩
  · exact ⟨_, (hlegal hd).trans (exec_flushOp_silent (.inr hdeg) fmt base _), rfl, rfl⟩
  · cases hd : decode d with
    | error e => rw [hillegal hd] at hf; cases hf
    | ok i =>
      rw [hlegal hd] at hf
      obtain ⟨fmt, r, base, rfl, hlive⟩ := exec_fault hf
      exact ⟨fmt, r, base, rfl, hlive⟩
  · cases hd : decode d with
    | error e => rw [hillegal hd] at ht; cases ht; exact absurd hres (by decide : resIllegal ≠ 0x01#8)
    | ok i =>
      rw [hlegal hd] at ht
      rcases exec_res_ok_or_setup ht with hok | ⟨lines, fmt, rfl⟩
      · exact absurd (hok.symm.trans hres) (by decide)
      · exact ⟨lines, fmt, rfl⟩

end Sys2Proof.Proofs
end

section
/-! Encoding: what the decoder reads of a descriptor, the round trips, the mask table, the assembler (spec 30_encoding.md R61 to
R68). -/

namespace Sys2Proof.Proofs

open Sys2Proof Sys2Proof.Machine Sys2Proof.Laws

/-- R64, R65: what the fields of a descriptor, RSV aside, hold where it requests the instruction: the code, the operands, and
zero in every part the operation does not use. -/
def Requests (d : Desc) : Instr → Prop
  | .setwin r => d.opc = 0x01#8 ∧ d.arg = 0#8 ∧ d.rect = r ∧ d.base = 0#32
  | .fill v => d.opc = 0x02#8 ∧ d.arg.extractLsb' 4 4 = 0#4 ∧ d.arg.extractLsb' 0 4 = v ∧ d.rectZero = true ∧ d.base = 0#32
  | .tpat => d.opc = 0x03#8 ∧ d.arg = 0#8 ∧ d.rectZero = true ∧ d.base = 0#32
  | .flush8 ctx r base =>
    d.opc = 0x04#8 ∧ d.arg.extractLsb' 1 7 = 0#7 ∧ d.arg.getLsbD 0 = ctx ∧ d.rect = r ∧ d.base.toNat = base
  | .flush16 ctx r base =>
    d.opc = 0x05#8 ∧ d.arg.extractLsb' 1 7 = 0#7 ∧ d.arg.getLsbD 0 = ctx ∧ d.rect = r ∧ d.base.toNat = base
  | .round r => d.opc = 0x06#8 ∧ d.arg = 0#8 ∧ d.rect = r ∧ d.base = 0#32
  | .setup lines fmt =>
    d.opc = 0x07#8 ∧ d.arg.extractLsb' 6 2 = 0#2 ∧ (d.arg.extractLsb' 0 5).toNat = lines ∧
      Fmt.ofBit (d.arg.getLsbD 5) = fmt ∧ d.rectZero = true ∧ d.base = 0#32

theorem rsvZero_iff (d : Desc) : d.rsvZero = true ↔ d.rsv = 0#16 := decide_eq_true_iff

theorem baseZero_iff (d : Desc) : d.baseZero = true ↔ d.base = 0#32 := decide_eq_true_iff

theorem rectZero_iff (d : Desc) :
    d.rectZero = true ↔ d.x1 = 0#16 ∧ d.y1 = 0#16 ∧ d.x2 = 0#16 ∧ d.y2 = 0#16 := by
  simp [Desc.rectZero, and_assoc]

/-- R64: the decoder reads the instruction exactly where RSV is zero and the other fields request it. -/
theorem decode_eq_ok_iff (d : Desc) (i : Instr) : decode d = .ok i ↔ d.rsv = 0#16 ∧ Requests d i := by
  constructor
  · intro h
    unfold decode at h
    repeat' split at h
    case isFalse.isFalse.isFalse.isFalse.isFalse.isFalse.isFalse => cases h
    all_goals
      obtain ⟨hrsv, harg, hrect, hbase, rfl⟩ := acceptWhen_ok h
      simp_all [Requests, rsvZero_iff, baseZero_iff]
  · rintro ⟨hrsv, h⟩
    have hrsvZero := (rsvZero_iff d).mpr hrsv
    have hbaseZero := (baseZero_iff d).mpr
    cases i with
    | setwin r => obtain ⟨hopc, harg, rfl, hbase⟩ := h; simp [decode, acceptWhen, *]
    | fill v => obtain ⟨hopc, harg, rfl, hrect, hbase⟩ := h; simp [decode, acceptWhen, *]
    | tpat => obtain ⟨hopc, harg, hrect, hbase⟩ := h; simp [decode, acceptWhen, *]
    | flush8 ctx r base => obtain ⟨hopc, harg, rfl, rfl, rfl⟩ := h; simp [decode, acceptWhen, *]
    | flush16 ctx r base => obtain ⟨hopc, harg, rfl, rfl, rfl⟩ := h; simp [decode, acceptWhen, *]
    | round r => obtain ⟨hopc, harg, rfl, hbase⟩ := h; simp [decode, acceptWhen, *]
    | setup lines fmt => obtain ⟨hopc, harg, rfl, rfl, hrect, hbase⟩ := h; simp [decode, acceptWhen, *]

/-- R62: the rectangle of a descriptor built from one that fits is that rectangle. -/
theorem rect_ofRect {r : Rect} (h : r.wellFormed = true) (opc arg : Byte) (base : BitVec 32) :
    (Desc.ofRect opc arg r base).rect = r := by
  simp only [Rect.wellFormed, Bool.and_eq_true] at h
  obtain ⟨⟨⟨hx1, hy1⟩, hx2⟩, hy2⟩ := h
  simp only [Desc.ofRect, Desc.rect, build_x1, build_y1, build_x2, build_y2, toInt_ofInt_of_fits, *]

theorem ctxArg_high (ctx : Bool) : (Desc.ctxArg ctx).extractLsb' 1 7 = 0#7 := by cases ctx <;> decide

theorem ctxArg_ctx (ctx : Bool) : (Desc.ctxArg ctx).getLsbD 0 = ctx := by cases ctx <;> decide

theorem setupArg_high (lines : Nat) (fmt : Fmt) : (Desc.setupArg lines fmt).extractLsb' 6 2 = 0#2 := by
  have hall : ∀ (f : Bool) (n : BitVec 5), (0#2 ++ BitVec.ofBool f ++ n).extractLsb' 6 2 = 0#2 := by decide
  exact hall fmt.toBit _

theorem setupArg_fmt (lines : Nat) (fmt : Fmt) : Fmt.ofBit ((Desc.setupArg lines fmt).getLsbD 5) = fmt := by
  have hall : ∀ (f : Bool) (n : BitVec 5), (0#2 ++ BitVec.ofBool f ++ n).getLsbD 5 = f := by decide
  rw [Desc.setupArg, hall]
  cases fmt <;> rfl

theorem setupArg_lines {lines : Nat} (h : lines ≤ 31) (fmt : Fmt) :
    ((Desc.setupArg lines fmt).extractLsb' 0 5).toNat = lines := by
  have hlow : (Desc.setupArg lines fmt).extractLsb' 0 5 = BitVec.ofNat 5 lines := BitVec.extractLsb'_append_eq_right
  rw [hlow, BitVec.toNat_ofNat]; omega

/-- R61: no instruction sets RSV. -/
theorem encode_rsv (i : Instr) : (encode i).rsv = 0#16 := by
  cases i <;> exact build_rsv ..

/-- R61, R62: the fields of an encoded flush. -/
theorem flush_fields {r : Rect} {base : Nat} (hr : r.wellFormed = true) (hbase : baseFits base = true) (opc : Byte)
    (ctx : Bool) (d : Desc) (hd : d = Desc.ofRect opc (Desc.ctxArg ctx) r (BitVec.ofNat 32 base)) :
    d.opc = opc ∧ d.arg.extractLsb' 1 7 = 0#7 ∧ d.arg.getLsbD 0 = ctx ∧ d.rect = r ∧ d.base.toNat = base := by
  have hfits : base < 2 ^ 32 := of_decide_eq_true hbase
  subst hd
  refine ⟨build_opc .., ?_, ?_, rect_ofRect hr .., ?_⟩
  · rw [Desc.ofRect, build_arg, ctxArg_high]
  · rw [Desc.ofRect, build_arg, ctxArg_ctx]
  · rw [Desc.ofRect, build_base, BitVec.toNat_ofNat, Nat.mod_eq_of_lt hfits]

/-- R61, R64: the fields of an encoded instruction request it. -/
theorem requests_encode {i : Instr} (h : i.wellFormed = true) : Requests (encode i) i := by
  cases i with
  | setwin r => exact ⟨build_opc .., build_arg .., rect_ofRect h .., build_base ..⟩
  | fill v =>
    refine ⟨build_opc .., ?_, ?_, by simp [encode, rectZero_iff], build_base ..⟩
    · rw [encode, build_arg]; exact BitVec.extractLsb'_append_eq_left
    · rw [encode, build_arg]; exact BitVec.extractLsb'_append_eq_right
  | tpat => exact ⟨build_opc .., build_arg .., by simp [encode, rectZero_iff], build_base ..⟩
  | flush8 ctx r base =>
    obtain ⟨hr, hbase⟩ := (Bool.and_eq_true _ _).mp h
    exact flush_fields hr hbase _ ctx _ rfl
  | flush16 ctx r base =>
    obtain ⟨hr, hbase⟩ := (Bool.and_eq_true _ _).mp h
    exact flush_fields hr hbase _ ctx _ rfl
  | round r => exact ⟨build_opc .., build_arg .., rect_ofRect h .., build_base ..⟩
  | setup lines fmt =>
    have hlines : lines ≤ 31 := of_decide_eq_true h
    refine ⟨build_opc .., ?_, ?_, ?_, by simp [encode, rectZero_iff], build_base ..⟩ <;> rw [encode, build_arg]
    · exact setupArg_high ..
    · exact setupArg_lines hlines fmt
    · exact setupArg_fmt ..

/-- Settles O9: the fields of an encoded instruction request it, and the decoder reads the fields. -/
theorem decodeEncodeRoundTrip : Obligations.DecodeEncodeRoundTrip := fun i hi =>
  (decode_eq_ok_iff _ i).mpr ⟨encode_rsv i, requests_encode hi⟩

/-- R61: a bit of a field is a bit of the descriptor. -/
theorem getLsbD_field (d : Desc) {start len i : Nat} (h1 : start ≤ i) (h2 : i - start < len) :
    (d.extractLsb' start len).getLsbD (i - start) = d.getLsbD i := by
  simp [h2, show start + (i - start) = i by omega]

/-- R61: the eight fields hold every bit of a descriptor. -/
theorem getLsbD_eq_fields (d : Desc) {i : Nat} (hi : i < 128) :
    d.getLsbD i = if i < 8 then d.opc.getLsbD i else if i < 16 then d.arg.getLsbD (i - 8)
      else if i < 32 then d.x1.getLsbD (i - 16) else if i < 48 then d.y1.getLsbD (i - 32)
      else if i < 64 then d.x2.getLsbD (i - 48) else if i < 80 then d.y2.getLsbD (i - 64)
      else if i < 112 then d.base.getLsbD (i - 80) else d.rsv.getLsbD (i - 112) := by
  repeat' split
  all_goals exact (getLsbD_field d (by omega) (by omega)).symm

/-- R61: a descriptor whose RSV is zero is laid out from its other fields. -/
theorem eq_build_fields {d : Desc} (h : d.rsv = 0#16) : d = Desc.build d.opc d.arg d.x1 d.y1 d.x2 d.y2 d.base := by
  apply BitVec.eq_of_getLsbD_eq
  intro i hi
  rw [build_getLsbD, getLsbD_eq_fields d hi, h, BitVec.getLsbD_zero]

/-- R61, R62: the coordinates read from a descriptor go back into the fields they came from. -/
theorem ofRect_rect {d : Desc} (h : d.rsv = 0#16) : Desc.ofRect d.opc d.arg d.rect d.base = d := by
  conv_rhs => rw [eq_build_fields h]
  simp [Desc.ofRect, Desc.rect]

/-- R61: a descriptor without coordinates and BASE is its code and its argument. -/
theorem build_of_zero {d : Desc} (hrsv : d.rsv = 0#16) (hrect : d.rectZero = true) (hbase : d.base = 0#32) :
    Desc.build d.opc d.arg 0#16 0#16 0#16 0#16 0#32 = d := by
  obtain ⟨hx1, hy1, hx2, hy2⟩ := (rectZero_iff d).mp hrect
  conv_rhs => rw [eq_build_fields hrsv, hx1, hy1, hx2, hy2, hbase]

theorem fillArg_eq : ∀ a : Byte, a.extractLsb' 4 4 = 0#4 → 0#4 ++ a.extractLsb' 0 4 = a := by decide

theorem ctxArg_eq : ∀ a : Byte, a.extractLsb' 1 7 = 0#7 → Desc.ctxArg (a.getLsbD 0) = a := by decide

theorem setupArg_eq : ∀ a : Byte, a.extractLsb' 6 2 = 0#2 →
    Desc.setupArg (a.extractLsb' 0 5).toNat (Fmt.ofBit (a.getLsbD 5)) = a := by decide

/-- R64: the encoder gives back the descriptor that requests the instruction. -/
theorem encode_of_requests {d : Desc} {i : Instr} (hrsv : d.rsv = 0#16) (h : Requests d i) : encode i = d := by
  cases i with
  | setwin r =>
    obtain ⟨hopc, harg, rfl, hbase⟩ := h
    simpa only [encode, Instr.opcode, hopc, harg, hbase] using ofRect_rect hrsv
  | fill v =>
    obtain ⟨hopc, harg, rfl, hrect, hbase⟩ := h
    simpa only [encode, Instr.opcode, hopc, fillArg_eq _ harg] using build_of_zero hrsv hrect hbase
  | tpat =>
    obtain ⟨hopc, harg, hrect, hbase⟩ := h
    simpa only [encode, Instr.opcode, hopc, harg] using build_of_zero hrsv hrect hbase
  | flush8 ctx r base =>
    obtain ⟨hopc, harg, rfl, rfl, rfl⟩ := h
    simpa only [encode, Instr.opcode, hopc, ctxArg_eq _ harg, BitVec.ofNat_toNat, BitVec.setWidth_eq] using ofRect_rect hrsv
  | flush16 ctx r base =>
    obtain ⟨hopc, harg, rfl, rfl, rfl⟩ := h
    simpa only [encode, Instr.opcode, hopc, ctxArg_eq _ harg, BitVec.ofNat_toNat, BitVec.setWidth_eq] using ofRect_rect hrsv
  | round r =>
    obtain ⟨hopc, harg, rfl, hbase⟩ := h
    simpa only [encode, Instr.opcode, hopc, harg, hbase] using ofRect_rect hrsv
  | setup lines fmt =>
    obtain ⟨hopc, harg, rfl, rfl, hrect, hbase⟩ := h
    simpa only [encode, Instr.opcode, hopc, setupArg_eq _ harg] using build_of_zero hrsv hrect hbase

/-- R62: a rectangle read from a descriptor fits its fields. -/
theorem rect_wellFormed (d : Desc) : d.rect.wellFormed = true := by
  simp [Rect.wellFormed, Desc.rect, toInt_fits]

/-- R62: a BASE read from a descriptor fits its field. -/
theorem base_fits (d : Desc) : baseFits d.base.toNat = true := decide_eq_true d.base.isLt

/-- R62: the operands read from a descriptor fit its fields. -/
theorem wellFormed_of_requests {d : Desc} {i : Instr} (h : Requests d i) : i.wellFormed = true := by
  cases i with
  | setwin r => obtain ⟨-, -, rfl, -⟩ := h; exact rect_wellFormed d
  | fill v => rfl
  | tpat => rfl
  | flush8 ctx r base =>
    obtain ⟨-, -, -, rfl, rfl⟩ := h; exact (Bool.and_eq_true _ _).mpr ⟨rect_wellFormed d, base_fits d⟩
  | flush16 ctx r base =>
    obtain ⟨-, -, -, rfl, rfl⟩ := h; exact (Bool.and_eq_true _ _).mpr ⟨rect_wellFormed d, base_fits d⟩
  | round r => obtain ⟨-, -, rfl, -⟩ := h; exact rect_wellFormed d
  | setup lines fmt =>
    obtain ⟨-, -, rfl, -⟩ := h; exact decide_eq_true (Nat.le_of_lt_succ (BitVec.isLt _))

/-- Settles O10: the fields the decoder read determine the whole descriptor, and they fit. -/
theorem encodeDecodeRoundTrip : Obligations.EncodeDecodeRoundTrip := fun d i hd =>
  have ⟨hrsv, hreq⟩ := (decode_eq_ok_iff d i).mp hd
  ⟨encode_of_requests hrsv hreq, wellFormed_of_requests hreq⟩

/-- R61: a descriptor is its eight fields. -/
theorem eq_iff_fields (d e : Desc) : d = e ↔ d.opc = e.opc ∧ d.arg = e.arg ∧ d.x1 = e.x1 ∧ d.y1 = e.y1 ∧ d.x2 = e.x2 ∧
    d.y2 = e.y2 ∧ d.base = e.base ∧ d.rsv = e.rsv := by
  constructor
  · rintro rfl; simp
  · rintro ⟨hopc, harg, hx1, hy1, hx2, hy2, hbase, hrsv⟩
    apply BitVec.eq_of_getLsbD_eq
    intro i hi
    rw [getLsbD_eq_fields d hi, getLsbD_eq_fields e hi, hopc, harg, hx1, hy1, hx2, hy2, hbase, hrsv]

/-- R64: the fields of a descriptor hold the fixed bits of an instruction's row, whatever its operands are. -/
def HasFixedFields (d : Desc) : Instr → Prop
  | .setwin _ => d.opc = 0x01#8 ∧ d.arg = 0#8 ∧ d.base = 0#32
  | .fill _ => d.opc = 0x02#8 ∧ d.arg.extractLsb' 4 4 = 0#4 ∧ d.rectZero = true ∧ d.base = 0#32
  | .tpat => d.opc = 0x03#8 ∧ d.arg = 0#8 ∧ d.rectZero = true ∧ d.base = 0#32
  | .flush8 _ _ _ => d.opc = 0x04#8 ∧ d.arg.extractLsb' 1 7 = 0#7
  | .flush16 _ _ _ => d.opc = 0x05#8 ∧ d.arg.extractLsb' 1 7 = 0#7
  | .round _ => d.opc = 0x06#8 ∧ d.arg = 0#8 ∧ d.base = 0#32
  | .setup _ _ => d.opc = 0x07#8 ∧ d.arg.extractLsb' 6 2 = 0#2 ∧ d.rectZero = true ∧ d.base = 0#32

theorem hasFixedFields_of_requests {d : Desc} {i : Instr} (h : Requests d i) : HasFixedFields d i := by
  cases i with
  | setwin r => obtain ⟨hopc, harg, -, hbase⟩ := h; exact ⟨hopc, harg, hbase⟩
  | fill v => obtain ⟨hopc, harg, -, hrect, hbase⟩ := h; exact ⟨hopc, harg, hrect, hbase⟩
  | tpat => exact h
  | flush8 ctx r base => obtain ⟨hopc, harg, -⟩ := h; exact ⟨hopc, harg⟩
  | flush16 ctx r base => obtain ⟨hopc, harg, -⟩ := h; exact ⟨hopc, harg⟩
  | round r => obtain ⟨hopc, harg, -, hbase⟩ := h; exact ⟨hopc, harg, hbase⟩
  | setup lines fmt => obtain ⟨hopc, harg, -, -, hrect, hbase⟩ := h; exact ⟨hopc, harg, hrect, hbase⟩

/-- R64: the other fields of a descriptor with the fixed bits of a row are operands, whatever they hold. -/
theorem exists_requests_of_fixedFields {d : Desc} {i : Instr} (h : HasFixedFields d i) : ∃ j, Requests d j := by
  cases i with
  | setwin r => obtain ⟨hopc, harg, hbase⟩ := h; exact ⟨.setwin _, hopc, harg, rfl, hbase⟩
  | fill v => obtain ⟨hopc, harg, hrect, hbase⟩ := h; exact ⟨.fill _, hopc, harg, rfl, hrect, hbase⟩
  | tpat => exact ⟨.tpat, h⟩
  | flush8 ctx r base => obtain ⟨hopc, harg⟩ := h; exact ⟨.flush8 _ _ _, hopc, harg, rfl, rfl, rfl⟩
  | flush16 ctx r base => obtain ⟨hopc, harg⟩ := h; exact ⟨.flush16 _ _ _, hopc, harg, rfl, rfl, rfl⟩
  | round r => obtain ⟨hopc, harg, hbase⟩ := h; exact ⟨.round _, hopc, harg, rfl, hbase⟩
  | setup lines fmt => obtain ⟨hopc, harg, hrect, hbase⟩ := h; exact ⟨.setup _ _, hopc, harg, rfl, rfl, hrect, hbase⟩

/-- R64: a masked descriptor is its masked fields. -/
theorem and_eq_iff_fields (d m c : Desc) : d &&& m = c ↔
    d.opc &&& m.extractLsb' 0 8 = c.extractLsb' 0 8 ∧ d.arg &&& m.extractLsb' 8 8 = c.extractLsb' 8 8 ∧
    d.x1 &&& m.extractLsb' 16 16 = c.extractLsb' 16 16 ∧ d.y1 &&& m.extractLsb' 32 16 = c.extractLsb' 32 16 ∧
    d.x2 &&& m.extractLsb' 48 16 = c.extractLsb' 48 16 ∧ d.y2 &&& m.extractLsb' 64 16 = c.extractLsb' 64 16 ∧
    d.base &&& m.extractLsb' 80 32 = c.extractLsb' 80 32 ∧ d.rsv &&& m.extractLsb' 112 16 = c.extractLsb' 112 16 := by
  rw [eq_iff_fields]
  simp only [Desc.opc, Desc.arg, Desc.x1, Desc.y1, Desc.x2, Desc.y2, Desc.base, Desc.rsv, BitVec.extractLsb'_and]

theorem byte_and_ones (a : Byte) : a &&& 0xFF#8 = a := BitVec.and_allOnes
theorem half_and_ones (a : Half) : a &&& 0xFFFF#16 = a := BitVec.and_allOnes
theorem base_and_ones (a : BitVec 32) : a &&& 0xFFFFFFFF#32 = a := BitVec.and_allOnes
theorem fillArg_mask : ∀ a : Byte, a &&& 0xF0#8 = 0#8 ↔ a.extractLsb' 4 4 = 0#4 := by decide
theorem ctxArg_mask : ∀ a : Byte, a &&& 0xFE#8 = 0#8 ↔ a.extractLsb' 1 7 = 0#7 := by decide
theorem setupArg_mask : ∀ a : Byte, a &&& 0xC0#8 = 0#8 ↔ a.extractLsb' 6 2 = 0#2 := by decide

/-- R64: a descriptor meets the mask and match of a row exactly when its fields hold the row's fixed bits and RSV is zero. -/
theorem and_mask_eq_code_iff (d : Desc) (i : Instr) :
    d &&& i.row.mask = i.row.code ↔ HasFixedFields d i ∧ d.rsv = 0#16 := by
  -- The row is unfolded to its literals before the fields are taken: the kernel then compares fields of numerals only.
  cases i <;> simp only [Instr.row, HasFixedFields] <;> rw [and_eq_iff_fields] <;>
    simp only [BitVec.reduceExtractLsb', BitVec.and_zero, byte_and_ones, half_and_ones, base_and_ones, fillArg_mask,
      ctxArg_mask, setupArg_mask, rectZero_iff, and_assoc, true_and]

theorem row_mem_descTable (i : Instr) : i.row ∈ descTable := by
  cases i <;> simp [descTable, Instr.row]

theorem exists_row_of_mem_descTable {row : DescRow} (h : row ∈ descTable) : ∃ i : Instr, row = i.row := by
  simp only [descTable, List.mem_cons, List.not_mem_nil, or_false] at h
  rcases h with h | h | h | h | h | h | h <;> exact ⟨_, h⟩

/-- R64: what the decoder accepts meets its row. -/
theorem and_mask_of_decode {d : Desc} {i : Instr} (h : decode d = .ok i) : d &&& i.row.mask = i.row.code :=
  have ⟨hrsv, hreq⟩ := (decode_eq_ok_iff d i).mp h
  (and_mask_eq_code_iff d i).mpr ⟨hasFixedFields_of_requests hreq, hrsv⟩

/-- R64: the decoder accepts what meets a row. -/
theorem exists_decode_of_and_mask {d : Desc} {i : Instr} (h : d &&& i.row.mask = i.row.code) : ∃ j, decode d = .ok j := by
  obtain ⟨hfix, hrsv⟩ := (and_mask_eq_code_iff d i).mp h
  obtain ⟨j, hreq⟩ := exists_requests_of_fixedFields hfix
  exact ⟨j, (decode_eq_ok_iff d j).mpr ⟨hrsv, hreq⟩⟩

/-- R63: the operation codes of the seven rows differ. -/
theorem descTable_opc_nodup : (descTable.map fun row => row.code.opc).Nodup := by decide

theorem descTable_mask_opc : ∀ row ∈ descTable, row.mask.extractLsb' 0 8 = 0xFF#8 := by decide

/-- R64: every row fixes the whole operation code. -/
theorem opc_of_row {row : DescRow} (h : row ∈ descTable) {d : Desc} (hd : d &&& row.mask = row.code) :
    d.opc = row.code.opc := by
  have hopc := ((and_eq_iff_fields d row.mask row.code).mp hd).1
  rwa [descTable_mask_opc row h, byte_and_ones] at hopc

/-- R64: no descriptor meets two rows. -/
theorem rows_disjoint {d : Desc} {j k : Nat} {rj rk : DescRow} (hj : descTable[j]? = some rj)
    (hk : descTable[k]? = some rk) (hdj : d &&& rj.mask = rj.code) (hdk : d &&& rk.mask = rk.code) : j = k := by
  have hopc : rj.code.opc = rk.code.opc :=
    (opc_of_row (List.mem_of_getElem? hj) hdj).symm.trans (opc_of_row (List.mem_of_getElem? hk) hdk)
  obtain ⟨hlt, -⟩ := List.getElem?_eq_some_iff.mp hj
  refine (List.getElem?_inj (by simpa using hlt) descTable_opc_nodup).mp ?_
  rw [List.getElem?_map, List.getElem?_map, hj, hk, Option.map_some, Option.map_some, hopc]

/-- Settles O11: the decoder and the mask table look at the same fixed fields, and the code tells the rows apart. -/
theorem legalExactlyWhenMaskMatches : Obligations.LegalExactlyWhenMaskMatches := by
  refine ⟨fun d => ⟨?_, ?_⟩, fun d i hd => ⟨and_mask_of_decode hd, row_mem_descTable i⟩, fun d j k rj rk => rows_disjoint⟩
  · rintro ⟨i, hd⟩
    exact ⟨i.row, row_mem_descTable i, and_mask_of_decode hd⟩
  · rintro ⟨row, hrow, hd⟩
    obtain ⟨i, rfl⟩ := exists_row_of_mem_descTable hrow
    exact exists_decode_of_and_mask hd

/-- Settles O12: the decoder evaluated on the words of V1. -/
theorem workedDescriptorsDecode : Obligations.WorkedDescriptorsDecode := by
  unfold Obligations.WorkedDescriptorsDecode; decide

/-- R62: a rectangle fits its fields exactly when its four coordinates do. -/
theorem rect_wellFormed_iff (x1 y1 x2 y2 : Int) :
    ({ x1 := x1, y1 := y1, x2 := x2, y2 := y2 } : Rect).wellFormed = true ↔ CoordsFit x1 y1 x2 y2 := by
  simp only [Rect.wellFormed, coordFits, CoordsFit, Bool.and_eq_true, decide_eq_true_eq, and_assoc]

theorem flush_wellFormed_iff (x1 y1 x2 y2 : Int) (base : Nat) :
    (({ x1 := x1, y1 := y1, x2 := x2, y2 := y2 } : Rect).wellFormed && baseFits base) = true ↔
      CoordsFit x1 y1 x2 y2 ∧ base < 2 ^ 32 := by
  rw [Bool.and_eq_true, rect_wellFormed_iff, baseFits, decide_eq_true_eq]

/-- R67: `ctx` is omitted, 0 or 1. -/
theorem ctx_le_one_iff (ctx : Option Nat) : ctx.getD 1 ≤ 1 ↔ ctx = none ∨ ctx = some 0 ∨ ctx = some 1 := by
  cases ctx with
  | none => simp
  | some n => simp; omega

/-- R67: a line that names an instruction whose operands fit becomes its descriptor. -/
theorem assemblesTo_of_instr? {l : AsmLine} {i : Instr} (h : l.instr? = some i) (hi : i.wellFormed = true) :
    AssemblesTo l i :=
  ⟨encode i, by rw [assemble, h]; exact if_pos hi, decodeEncodeRoundTrip i hi⟩

/-- R67: a line is refused where it names no instruction, or one whose operands do not fit. -/
theorem assemble_eq_none_iff {l : AsmLine} {accepted : Prop} [Decidable accepted] {i : Instr}
    (h : l.instr? = if accepted then some i else none) : assemble l = none ↔ ¬ (accepted ∧ i.wellFormed = true) := by
  rw [assemble, h]
  by_cases ha : accepted <;> simp [ha]

/-- R67: a line of a form that always names an instruction is refused where its operands do not fit. -/
theorem assemble_eq_none_iff_of_instr? {l : AsmLine} {i : Instr} (h : l.instr? = some i) :
    assemble l = none ↔ ¬ i.wellFormed = true := by
  rw [assemble_eq_none_iff (accepted := True) (i := i) (h.trans (if_pos trivial).symm), true_and]

/-- R67: which flushes the assembler refuses, from the instruction its line names and what that fits. -/
theorem assemble_flush_eq_none_iff {l : AsmLine} {i : Instr} {x1 y1 x2 y2 : Int} {base : Nat} {ctx : Option Nat}
    (h : l.instr? = if ctx.getD 1 ≤ 1 then some i else none)
    (hi : i.wellFormed = (({ x1 := x1, y1 := y1, x2 := x2, y2 := y2 } : Rect).wellFormed && baseFits base)) :
    assemble l = none ↔
      ¬ (CoordsFit x1 y1 x2 y2 ∧ base < 2 ^ 32 ∧ (ctx = none ∨ ctx = some 0 ∨ ctx = some 1)) := by
  rw [assemble_eq_none_iff h, hi, flush_wellFormed_iff, ctx_le_one_iff, and_comm, and_assoc]

/-- R67: which values of `v` the assembler refuses. -/
theorem assemble_fill_eq_none_iff (v : Nat) : assemble (.fill v) = none ↔ 15 < v := by
  have h : ¬ (v ≤ 15 ∧ (Instr.fill (BitVec.ofNat 4 v)).wellFormed = true) ↔ 15 < v := by simp [Instr.wellFormed]
  rw [assemble_eq_none_iff (i := .fill (BitVec.ofNat 4 v)) rfl, h]

/-- Settles O13: each form names its instruction, which is encoded exactly when its operands fit; `ctx` omitted is 1, and
BLACK and WHITE are FILL 0 and FILL 15. -/
theorem assemblerMakesLegalDescriptors : Obligations.AssemblerMakesLegalDescriptors := by
  refine ⟨fun x1 y1 x2 y2 hfit => ?_, fun v => ?_, assemblesTo_of_instr? rfl rfl, assemblesTo_of_instr? rfl rfl,
    assemblesTo_of_instr? rfl rfl, fun lines fmt hlines => assemblesTo_of_instr? rfl (decide_eq_true hlines),
    assemble_fill_eq_none_iff, fun n fmt => ?_, fun x1 y1 x2 y2 => ?_, fun x1 y1 x2 y2 => ?_,
    fun x1 y1 x2 y2 base ctx => assemble_flush_eq_none_iff rfl rfl,
    fun x1 y1 x2 y2 base ctx => assemble_flush_eq_none_iff rfl rfl, rfl, rfl, fun x1 y1 x2 y2 base => ⟨rfl, rfl⟩⟩
  · have hrect := (rect_wellFormed_iff x1 y1 x2 y2).mpr hfit
    refine ⟨assemblesTo_of_instr? rfl hrect, assemblesTo_of_instr? rfl hrect, fun base hbase => ?_⟩
    have hflush := (flush_wellFormed_iff x1 y1 x2 y2 base).mpr ⟨hfit, hbase⟩
    exact ⟨assemblesTo_of_instr? rfl hflush, assemblesTo_of_instr? rfl hflush, assemblesTo_of_instr? rfl hflush,
      assemblesTo_of_instr? rfl hflush, assemblesTo_of_instr? rfl hflush, assemblesTo_of_instr? rfl hflush⟩
  · have hv : v.toNat < 16 := v.isLt
    have hname : (AsmLine.fill v.toNat).instr? = some (.fill v) := by
      rw [AsmLine.instr?, if_pos (by omega), BitVec.ofNat_toNat, BitVec.setWidth_eq]
    exact assemblesTo_of_instr? hname rfl
  · rw [assemble_eq_none_iff_of_instr? rfl]; simp [Instr.wellFormed, linesFit]
  · rw [assemble_eq_none_iff_of_instr? rfl]; exact not_congr (rect_wellFormed_iff x1 y1 x2 y2)
  · rw [assemble_eq_none_iff_of_instr? rfl]; exact not_congr (rect_wellFormed_iff x1 y1 x2 y2)

end Sys2Proof.Proofs
end

section
/-! Every step: the invariant, the configuration, who writes which register, who emits (spec 10_state.md R26 to R34,
00_scope.md R8, R13). -/

namespace Sys2Proof.Proofs

open Sys2Proof Sys2Proof.Machine Sys2Proof.Laws

theorem invariant_dropMove {s : State} (h : Invariant s) (ms : List HostMove) : Invariant (dropMove ms s) :=
  { valid := h.valid, idle := h.idle, srcWf := h.srcWf, srcIn := h.srcIn, resCode := h.resCode, lines := h.lines }

/-- R34: a completed operation is idle again; of what the invariant bounds it wrote RES and the staging registers only. -/
theorem invariant_of_opEffect {d : Desc} {s t : State} (h : Invariant s) (he : OpEffect (latch d s) t) : Invariant t where
  valid := he.cfg ▸ h.valid
  idle := he.idle
  srcWf := he.src ▸ h.srcWf
  srcIn := by rw [he.cfg, he.src]; exact h.srcIn
  resCode := he.res
  lines := he.lines.elim (fun hsame => hsame ▸ h.lines) id

/-- R42: a store inside SRC keeps SRC canonical and inside its range. -/
theorem invariant_storeSrc {s : State} (h : Invariant s) {a : Nat} (ha : a < s.cfg.stageBytes) (v : Byte) :
    Invariant (storeSrc a v s) where
  valid := h.valid
  idle := h.idle
  srcWf := Memory.write_wf s.src a v h.srcWf
  srcIn := Memory.write_within s.src v ha h.srcIn
  resCode := h.resCode
  lines := h.lines

theorem invariant_resetBlock {s : State} (h : Invariant s) : Invariant (resetBlock s) :=
  { valid := h.valid, idle := rfl, srcWf := h.srcWf, srcIn := h.srcIn, resCode := .inl rfl, lines := Nat.zero_le _ }

theorem invariant_answer {s : State} (h : Invariant s) (v : PortValue) : Invariant (answer v s) :=
  { valid := h.valid, idle := h.idle, srcWf := h.srcWf, srcIn := h.srcIn, resCode := h.resCode, lines := h.lines }

theorem invariant_answerFree {s : State} (h : Invariant s) (v : PortValue) : Invariant (answerFree v s) :=
  { valid := h.valid, idle := h.idle, srcWf := h.srcWf, srcIn := h.srcIn, resCode := h.resCode, lines := h.lines }

/-- R21: issuing a descriptor, legal or not, keeps the invariant. -/
theorem invariant_issue {d : Desc} {s t : State} (h : Invariant s) (ht : issue d s = .next t) : Invariant t := by
  rcases issue_next ht with ⟨-, rfl⟩ | ⟨-, -, rfl⟩ | ⟨-, i, -, -, he⟩
  · exact h
  · exact invariant_of_opEffect h (opEffect_illegal d _)
  · exact invariant_of_opEffect h he

/-- R173: every move of the host keeps the invariant. -/
theorem invariant_perform {m : HostMove} {s t : State} (h : Invariant s) (ht : perform m s = .next t) : Invariant t := by
  rcases perform_next ht with ⟨d, -, hissue⟩ | ⟨a, v, -, ha, rfl⟩ | ⟨-, -, rfl⟩ | ⟨-, v, rfl | rfl⟩
  · exact invariant_issue h hissue
  · exact invariant_storeSrc h ha v
  · exact invariant_resetBlock h
  · exact invariant_answer h v
  · exact invariant_answerFree h v

/-- Settles O14: a step waits or performs a move, and every move keeps the invariant. -/
theorem stepKeepsInvariant : Obligations.StepKeepsInvariant := by
  intro s t h ht
  obtain ⟨-, ⟨-, rfl⟩ | ⟨m, ms, -, hperform⟩⟩ := step_next ht
  · exact h
  · exact invariant_perform (invariant_dropMove h ms) hperform

theorem invariant_resetWith {cfg : Config} (hv : cfg.Valid) : Invariant (State.resetWith cfg) :=
  { valid := hv, idle := rfl, srcWf := rfl, srcIn := rfl, resCode := .inl rfl, lines := Nat.zero_le _ }

/-- R9: CFG_REF meets the constraints of R8. -/
theorem ref_valid : Config.ref.Valid := by decide

/-- Settles O15: reset leaves SRC empty and every bounded register at zero. -/
theorem resetMeetsInvariant : Obligations.ResetMeetsInvariant :=
  ⟨fun _ hv => invariant_resetWith hv, invariant_resetWith ref_valid⟩

/-- R33: no move of the host changes CFG. -/
theorem perform_cfg {m : HostMove} {s t : State} (ht : perform m s = .next t) : t.cfg = s.cfg := by
  rcases perform_next ht with ⟨d, -, hissue⟩ | ⟨a, v, -, -, rfl⟩ | ⟨-, -, rfl⟩ | ⟨-, v, rfl | rfl⟩
  · rcases issue_next hissue with ⟨-, rfl⟩ | ⟨-, -, rfl⟩ | ⟨-, i, -, -, he⟩
    · rfl
    · rfl
    · exact he.cfg
  all_goals rfl

/-- Settles O16: a step waits or performs a move, and no move changes CFG. -/
theorem configurationNeverChanges : Obligations.ConfigurationNeverChanges := by
  intro s t ht
  obtain ⟨-, ⟨-, rfl⟩ | ⟨m, ms, -, hperform⟩⟩ := step_next ht
  · rfl
  · exact perform_cfg (s := dropMove ms s) hperform

/-- R13, R52: issuing a descriptor only appends to the trace. -/
theorem issue_trace_prefix {d : Desc} {s t : State} (ht : issue d s = .next t) : s.trace <+: t.trace := by
  rcases issue_next ht with ⟨-, rfl⟩ | ⟨-, -, rfl⟩ | ⟨-, i, -, -, he⟩
  · exact List.prefix_rfl
  · exact ⟨_, rfl⟩
  · obtain ⟨es, hes⟩ := he.trace
    exact ⟨es, hes.symm⟩

/-- R13, R52: a move that is neither an issue nor `rst` leaves the trace. -/
theorem perform_trace {m : HostMove} {s t : State} (ht : perform m s = .next t) (hissue : ∀ d, m ≠ .issue d)
    (hrst : m ≠ .rst) : t.trace = s.trace := by
  rcases perform_next ht with ⟨d, rfl, -⟩ | ⟨a, v, -, -, rfl⟩ | ⟨rfl, -, -⟩ | ⟨-, v, rfl | rfl⟩
  · exact absurd rfl (hissue d)
  · rfl
  · exact absurd rfl hrst
  all_goals rfl

/-- Settles O18: the moves' effects on the trace, one by one. -/
theorem onlyIssueEmitsEvents : Obligations.OnlyIssueEmitsEvents := by
  intro s t ht
  obtain ⟨-, ⟨hnil, rfl⟩ | ⟨m, ms, hcons, hperform⟩⟩ := step_next ht
  · simp [hnil]
  · refine ⟨fun m' ms' hhost hissue hrst => ?_, fun d ms' hhost => ?_, fun hhost => ?_⟩
    · obtain ⟨rfl, rfl⟩ := List.cons.inj (hcons.symm.trans hhost)
      exact perform_trace (s := dropMove ms s) hperform hissue hrst
    · obtain ⟨rfl, rfl⟩ := List.cons.inj (hcons.symm.trans hhost)
      exact issue_trace_prefix (s := dropMove ms s) hperform
    · cases hcons.symm.trans hhost

/-- R8: the RAM-write command differs from the address commands, where there is one. -/
theorem ramWrDiffers_iff (cfg : Config) :
    ramWrDiffers cfg = true ↔ ∀ c, cfg.opcRamWr = some c → c ≠ cfg.opcSetCol ∧ c ≠ cfg.opcSetRow := by
  unfold ramWrDiffers
  cases cfg.opcRamWr with
  | none => simp
  | some c => simp

/-- R8: the constraints, written out. -/
theorem valid_iff (cfg : Config) : cfg.Valid ↔
    (cfg.q = 2 ∨ cfg.q = 4) ∧ cfg.colOff + (256 - 1) / cfg.q ≤ 255 ∧ cfg.wr + cfg.wg + cfg.wb ≤ 256 ∧
      cfg.opcSetCol ≠ cfg.opcSetRow ∧ (∀ c, cfg.opcRamWr = some c → c ≠ cfg.opcSetCol ∧ c ≠ cfg.opcSetRow) ∧
      1 ≤ cfg.stageBytes := by
  rw [← ramWrDiffers_iff]; exact Iff.rfl

/-- R8: a legal configuration is not refused, whatever the host's move. -/
theorem step_ne_invalidConfig {s : State} (hv : s.cfg.Valid) : step s ≠ .refused .invalidConfig := by
  intro h
  rcases step_cases s with ⟨hinvalid, -⟩ | ⟨-, -, hwait⟩ | ⟨-, m, ms, -, hperform⟩
  · exact hinvalid hv
  · rw [hwait] at h; cases h
  · rw [hperform] at h
    rcases perform_refused h with ⟨_, _, _, _, hq⟩ | ⟨_, _, _, _, _, _, hq⟩ | ⟨_, _, hq⟩ <;> cases hq

/-- Settles O3: the constraints are looked at before the host's move. -/
theorem invalidConfigurationIsRefused : Obligations.InvalidConfigurationIsRefused := fun s => by
  rw [← valid_iff]
  exact ⟨fun h hv => step_ne_invalidConfig hv h, fun hinvalid => if_neg hinvalid⟩

end Sys2Proof.Proofs
end

section
/-! ROUND, SETUP and TPAT, and what each operation leaves (spec 42_integration.md R130 to R135, 41_pixel_pipeline.md R110). -/

namespace Sys2Proof.Proofs

open Sys2Proof Sys2Proof.Machine Sys2Proof.Laws

/-- R88, R109 to R112: every operation but ROUND and SETUP only emits before it completes. -/
theorem flushCore_next {fmt : Fmt} {ctx : Bool} {r : Rect} {base : Nat} {s t : State}
    (h : flushCore fmt ctx r base s = .next t) : ∃ es, t = complete resOk (emit es s) := by
  rcases flushCore_cases fmt ctx r base s with ⟨-, h'⟩ | ⟨-, -, f, -, h'⟩ | ⟨-, -, -, h'⟩ <;> rw [h'] at h <;> cases h
  · exact ⟨_, rfl⟩
  · exact ⟨_, rfl⟩

theorem exec_tpat (s : State) : exec .tpat s = .next (complete resOk (emit (fullPanel s.cfg Config.testPat) s)) := rfl

theorem exec_round (r : Rect) (s : State) : exec (.round r) s = .next (complete resOk (setRect (roundRect r) s)) := rfl

theorem exec_setup_accepted {lines : Nat} {fmt : Fmt} {s : State} (h : SetupAccepts s.cfg lines fmt) :
    exec (.setup lines fmt) s = .next (complete resOk (setStaging lines fmt s)) :=
  congrArg Host.Outcome.next (if_pos h)

theorem exec_setup_refused {lines : Nat} {fmt : Fmt} {s : State} (h : ¬ SetupAccepts s.cfg lines fmt) :
    exec (.setup lines fmt) s = .next (complete resFail s) :=
  congrArg Host.Outcome.next (if_neg h)

/-- Everything a completed operation can have done to the state. -/
theorem exec_next_cases {i : Instr} {s t : State} (h : exec i s = .next t) :
    (∃ es, t = complete resOk (emit es s)) ∨ (∃ r, i = .round r ∧ t = complete resOk (setRect (roundRect r) s)) ∨
    ∃ lines fmt, i = .setup lines fmt ∧ (t = complete resOk (setStaging lines fmt s) ∨ t = complete resFail s) := by
  cases i with
  | setwin r => cases h; exact .inl ⟨_, rfl⟩
  | fill v => cases h; exact .inl ⟨_, rfl⟩
  | tpat => cases h; exact .inl ⟨_, rfl⟩
  | flush8 ctx r base => exact .inl (flushCore_next h)
  | flush16 ctx r base => exact .inl (flushCore_next h)
  | round r => cases h; exact .inr (.inl ⟨r, rfl, rfl⟩)
  | setup lines fmt =>
    refine .inr (.inr ⟨lines, fmt, rfl, ?_⟩)
    by_cases hacc : SetupAccepts s.cfg lines fmt
    · rw [exec_setup_accepted hacc] at h; cases h; exact .inl rfl
    · rw [exec_setup_refused hacc] at h; cases h; exact .inr rfl

/-- R27: a completed operation that changed RX1..RY2 was ROUND. -/
theorem sameRect_or_round {i : Instr} {s t : State} (h : exec i s = .next t) : SameRect s t ∨ ∃ r, i = .round r := by
  rcases exec_next_cases h with ⟨es, rfl⟩ | ⟨r, rfl, -⟩ | ⟨_, _, -, rfl | rfl⟩
  · exact .inl (complete_emit_frame ..).1
  · exact .inr ⟨r, rfl⟩
  all_goals exact .inl ⟨rfl, rfl, rfl, rfl, rfl⟩

/-- R29: a completed operation that changed STG_LINES or STG_FMT was SETUP. -/
theorem sameStaging_or_setup {i : Instr} {s t : State} (h : exec i s = .next t) :
    SameStaging s t ∨ ∃ lines fmt, i = .setup lines fmt := by
  rcases exec_next_cases h with ⟨es, rfl⟩ | ⟨_, -, rfl⟩ | ⟨lines, fmt, rfl, -⟩
  · exact .inl (complete_emit_frame ..).2.1
  · exact .inl ⟨rfl, rfl⟩
  · exact .inr ⟨lines, fmt, rfl⟩

theorem sameSurroundings_of_opEffect {s t : State} (h : OpEffect s t) : SameSurroundings s t :=
  ⟨h.cfg, h.dl, h.host, h.replies⟩

theorem sameSrc_of_opEffect {s t : State} (h : OpEffect s t) : SameSrc s t := fun _ => by rw [h.src]

/-- R135: what SETWIN, FILL, TPAT and the flushes leave. -/
theorem bus_frame {i : Instr} {s t : State} (h : exec i s = .next t) (hround : ∀ r, i ≠ .round r)
    (hsetup : ∀ lines fmt, i ≠ .setup lines fmt) :
    SameRect s t ∧ SameStaging s t ∧ SameSurroundings s t ∧ SameSrc s t := by
  have he := exec_next h
  refine ⟨?_, ?_, sameSurroundings_of_opEffect he, sameSrc_of_opEffect he⟩
  · exact (sameRect_or_round h).resolve_right fun ⟨r, hr⟩ => hround r hr
  · exact (sameStaging_or_setup h).resolve_right fun ⟨lines, fmt, hs⟩ => hsetup lines fmt hs

/-- Settles O49: only ROUND writes RX1..RY2 and only SETUP the staging registers; no operation writes the rest. -/
theorem busOperationsFrame : Obligations.BusOperationsFrame := fun _ _ =>
  ⟨fun _ h => bus_frame h nofun nofun, fun _ h => bus_frame h nofun nofun, fun h => bus_frame h nofun nofun,
    fun _ _ _ h => bus_frame h nofun nofun, fun _ _ _ h => bus_frame h nofun nofun⟩

/-- R130, R132: ROUND and SETUP emit nothing. -/
theorem trace_of_round_or_setup {i : Instr} {s t : State} (h : exec i s = .next t)
    (hi : (∃ r, i = .round r) ∨ ∃ lines fmt, i = .setup lines fmt) : t.trace = s.trace := by
  rcases hi with ⟨r, rfl⟩ | ⟨lines, fmt, rfl⟩
  · cases h; rfl
  · by_cases hacc : SetupAccepts s.cfg lines fmt
    · rw [exec_setup_accepted hacc] at h; cases h; rfl
    · rw [exec_setup_refused hacc] at h; cases h; rfl

/-- Settles O50: ROUND is not SETUP, SETUP is not ROUND, and neither emits. -/
theorem configurationOperationsFrame : Obligations.ConfigurationOperationsFrame := by
  intro s t
  refine ⟨fun r h => ?_, fun lines fmt h => ?_⟩
  · have he := exec_next h
    exact ⟨(sameStaging_or_setup h).resolve_right nofun, sameSurroundings_of_opEffect he, sameSrc_of_opEffect he,
      trace_of_round_or_setup h (.inl ⟨r, rfl⟩)⟩
  · have he := exec_next h
    exact ⟨(sameRect_or_round h).resolve_right nofun, sameSurroundings_of_opEffect he, sameSrc_of_opEffect he,
      trace_of_round_or_setup h (.inr ⟨lines, fmt, rfl⟩)⟩

theorem roundRect_x1 (r : Rect) : (roundRect r).x1 = max 0 (2 * (r.x1 / 2)) := rfl
theorem roundRect_x2 (r : Rect) : (roundRect r).x2 = min 255 (2 * (r.x2 / 2) + 1) := rfl

/-- R130: the rounded rectangle of one that fits the descriptor fits the registers. -/
theorem roundRect_wellFormed {r : Rect} (h : r.wellFormed = true) : (roundRect r).wellFormed = true := by
  have hfit : CoordsFit r.x1 r.y1 r.x2 r.y2 := (rect_wellFormed_iff ..).mp h
  refine (rect_wellFormed_iff ..).mpr ?_
  unfold CoordsFit at hfit ⊢
  omega

/-- The rectangle the registers RX1..RY2 hold (R27). -/
def heldRect (s : State) : Rect := { x1 := s.rx1.toInt, y1 := s.ry1.toInt, x2 := s.rx2.toInt, y2 := s.ry2.toInt }

/-- R27: a rectangle that fits the registers is held as it is. -/
theorem heldRect_setRect {r : Rect} (h : r.wellFormed = true) (s : State) : heldRect (setRect r s) = r := by
  simp only [Rect.wellFormed, Bool.and_eq_true] at h
  obtain ⟨⟨⟨hx1, hy1⟩, hx2⟩, hy2⟩ := h
  simp only [heldRect, setRect_rx1, setRect_ry1, setRect_rx2, setRect_ry2, toInt_ofInt_of_fits, *]

/-- R130: after ROUND the registers hold the rounded rectangle. -/
theorem heldRect_of_round {r : Rect} {s t : State} (hr : r.wellFormed = true) (h : exec (.round r) s = .next t) :
    heldRect t = roundRect r := by
  cases h; exact heldRect_setRect (roundRect_wellFormed hr) s

/-- Settles O44: the rounded rectangle fits the registers, and floor division by 2 is the model's division. -/
theorem roundResult : Obligations.RoundResult := by
  intro r s hr
  have hheld := heldRect_of_round hr (exec_round r s)
  have hfdiv (v : Int) : Int.fdiv v 2 = v / 2 := Int.fdiv_eq_ediv_of_nonneg v (by decide)
  refine ⟨_, exec_round r s, ?_, ?_, congrArg Rect.y1 hheld, congrArg Rect.y2 hheld, rfl, rfl, rfl, ⟨rfl, rfl⟩,
    ⟨rfl, rfl, rfl, rfl⟩, fun _ => rfl⟩
  · rw [hfdiv]; exact congrArg Rect.x1 hheld
  · rw [hfdiv]; exact congrArg Rect.x2 hheld

/-- R131: rounding twice is rounding once. -/
theorem roundRect_roundRect (r : Rect) : roundRect (roundRect r) = roundRect r := by
  have hx1 : (roundRect (roundRect r)).x1 = (roundRect r).x1 := by simp only [roundRect_x1]; omega
  have hx2 : (roundRect (roundRect r)).x2 = (roundRect r).x2 := by simp only [roundRect_x2]; omega
  calc roundRect (roundRect r)
      = { x1 := (roundRect (roundRect r)).x1, y1 := r.y1, x2 := (roundRect (roundRect r)).x2, y2 := r.y2 } := rfl
    _ = roundRect r := by rw [hx1, hx2]; rfl

/-- A register that holds a value which is not negative holds it unsigned too. -/
theorem toNat_eq_toInt {v : Half} (h : 0 ≤ v.toInt) : (v.toNat : Int) = v.toInt := by
  have hlt := v.isLt
  rw [BitVec.toInt_eq_toNat_cond] at h ⊢
  split at h <;> simp_all
  omega

/-- R27: writing the rectangle the registers hold changes no register. -/
theorem setRect_heldRect (s t : State) : (setRect (heldRect s) t).rx1 = s.rx1 ∧ (setRect (heldRect s) t).ry1 = s.ry1 ∧
    (setRect (heldRect s) t).rx2 = s.rx2 ∧ (setRect (heldRect s) t).ry2 = s.ry2 := by
  simp [heldRect]

/-- Settles O46: the rounded bounds are evaluated by omega; the registers hold them, so rounding again starts from them. -/
theorem roundAlignsPixelPairs : Obligations.RoundAlignsPixelPairs := by
  intro r s t hr h h1 h12 h2
  have hheld := heldRect_of_round hr h
  have hx1 : t.rx1.toInt = max 0 (2 * (r.x1 / 2)) := congrArg Rect.x1 hheld
  have hx2 : t.rx2.toInt = min 255 (2 * (r.x2 / 2) + 1) := congrArg Rect.x2 hheld
  refine ⟨by omega, by omega, by omega, by omega, by omega, by omega, by omega, by omega, by omega, fun cfg hq => ?_,
    _, exec_round (heldRect t) t, ?_⟩
  · have hn1 := toNat_eq_toInt (v := t.rx1) (by omega)
    have hn2 := toNat_eq_toInt (v := t.rx2) (by omega)
    rw [alo, ahi, hq]; omega
  · have hagain : roundRect (heldRect t) = heldRect t := by rw [hheld, roundRect_roundRect]
    rw [hagain]; exact setRect_heldRect t t

/-- Settles O47: SETUP has two outcomes, told apart by `SetupAccepts`. -/
theorem setupResult : Obligations.SetupResult := by
  intro lines fmt s
  by_cases hacc : SetupAccepts s.cfg lines fmt
  · have hlines : lines ≤ 16 := hacc.2.1
    refine ⟨_, exec_setup_accepted hacc, rfl, rfl, ⟨rfl, rfl, rfl, rfl, rfl⟩, ⟨rfl, rfl, rfl, rfl⟩, fun _ => rfl,
      fun _ => ⟨?_, rfl, rfl⟩, fun hrefused => absurd hacc hrefused⟩
    rw [complete_stgLines, setStaging_stgLines, BitVec.toNat_ofNat]; omega
  · exact ⟨_, exec_setup_refused hacc, rfl, rfl, ⟨rfl, rfl, rfl, rfl, rfl⟩, ⟨rfl, rfl, rfl, rfl⟩, fun _ => rfl,
      fun haccepted => absurd haccepted hacc, fun _ => ⟨⟨rfl, rfl⟩, rfl⟩⟩

/-- R133: with full capacity the size of the staging buffer refuses no line count. -/
theorem setupAccepts_full_capacity {cfg : Config} (h : cfg.stageBytes = 256 * 16 * 2) (lines : Nat) (fmt : Fmt) :
    SetupAccepts cfg lines fmt ↔ 1 ≤ lines ∧ lines ≤ 16 := by
  have hbpp : bpp fmt ≤ 2 := by cases fmt <;> decide
  refine ⟨fun ⟨h1, h16, _⟩ => ⟨h1, h16⟩, fun ⟨h1, h16⟩ => ⟨h1, h16, ?_⟩⟩
  rw [h]
  exact Nat.mul_le_mul (Nat.mul_le_mul_left 256 h16) hbpp

/-- Settles O48: with full capacity only the line count decides. -/
theorem fullCapacityAcceptsEveryLineCount : Obligations.FullCapacityAcceptsEveryLineCount := by
  intro lines fmt s t hcap h
  have hiff := setupAccepts_full_capacity hcap lines fmt
  by_cases hacc : SetupAccepts s.cfg lines fmt
  · rw [exec_setup_accepted hacc] at h; cases h
    have hlines := hiff.mp hacc
    simp [resOk]; omega
  · rw [exec_setup_refused hacc] at h; cases h
    rw [hiff] at hacc
    simp [resFail]; omega

/-- R108: a row of the stream is the packed row of its panel row. -/
theorem row_of_packedRows {ax1 cy1 ax2 cy2 j : Nat} {px : Nat → Nat → Nib} {row : List Byte}
    (h : (packedRows ax1 cy1 ax2 cy2 px)[j]? = some row) : j < cy2 - cy1 + 1 ∧ row = packedRow ax1 ax2 (cy1 + j) px := by
  have hj : j < cy2 - cy1 + 1 := by simpa using (List.getElem?_eq_some_iff.mp h).1
  rw [packedRows_getElem? hj] at h
  exact ⟨hj, (Option.some.inj h).symm⟩

/-- R106, R108: a byte of a packed row is its left pixel times 16 plus its right one. -/
theorem byte_of_packedRow {ax1 ax2 y i : Nat} {px : Nat → Nat → Nib} {b : Byte}
    (h : (packedRow ax1 ax2 y px)[i]? = some b) :
    i < (ax2 - ax1 + 1) / 2 ∧ b.toNat = 16 * (px (ax1 + 2 * i) y).toNat + (px (ax1 + 2 * i + 1) y).toNat := by
  have hi : i < (ax2 - ax1 + 1) / 2 := by simpa using (List.getElem?_eq_some_iff.mp h).1
  rw [packedRow_getElem? hi] at h
  exact ⟨hi, by rw [← Option.some.inj h, pack_toNat]⟩

/-- Settles O37: TPAT only emits, and its events are the full window and the packed rows of the pattern. -/
theorem tpatResult : Obligations.TpatResult := by
  intro s hv
  obtain ⟨hrect, hstg, hsur, hsrc⟩ := complete_emit_frame resOk (fullPanel s.cfg Config.testPat) s
  obtain ⟨cs, ce, hcs, hce, hwindow⟩ := window_fullPanel hv
  refine ⟨_, exec_tpat s, rfl, rfl, hrect, hstg, hsur, hsrc, cs, ce,
    packedRows 0 0 (panelW - 1) (panelH - 1) Config.testPat, hcs, hce, ?_, packedRows_length .., fun y row hrow => ?_⟩
  · rw [complete_trace, emit_trace, fullPanel_eq, hwindow]
  · obtain ⟨-, rfl⟩ := row_of_packedRows hrow
    refine ⟨packedRow_length .., fun i b hb => ?_⟩
    simpa only [Nat.zero_add] using (byte_of_packedRow hb).2

/-- Settles O34: the rows of STREAM are packed rows, and a width of whole quanta is even. -/
theorem streamPacksRowsInRasterOrder : Obligations.StreamPacksRowsInRasterOrder := by
  intro cfg ax1 cy1 ax2 cy2 px hv hq1 hq2 hx hx255 hy hy63
  have heven : 2 * ((ax2 - ax1 + 1) / 2) = ax2 - ax1 + 1 := by
    rcases hv.1 with hq | hq <;> rw [hq] at hq1 hq2 <;> omega
  refine ⟨packedRows ax1 cy1 ax2 cy2 px, stream_eq .., packedRows_length .., fun j row hrow => ?_⟩
  obtain ⟨-, rfl⟩ := row_of_packedRows hrow
  exact ⟨by rw [packedRow_length, heven], fun i b hb => (byte_of_packedRow hb).2⟩

end Sys2Proof.Proofs
end

section
/-! Geometry and pixels: clamping, alignment, the window in address units, the luma, the source layout (spec 40_addressing.md
R81 to R86, 41_pixel_pipeline.md R102 to R107, 20_memory.md R44). -/

namespace Sys2Proof.Proofs

open Sys2Proof Sys2Proof.Machine Sys2Proof.Laws

/-- Settles O21: the clamped corners are the intersection's, and they are in order. -/
theorem clampedRectangleIsIntersection : Obligations.ClampedRectangleIsIntersection := by
  refine ⟨fun v => ⟨clampX_cast v, clampY_cast v⟩, fun r hd => ?_⟩
  obtain ⟨hx1, hx2, hy1, hy2⟩ := clamped_eq_intersection hd
  obtain ⟨hx, hy, -⟩ := clamped_order hd
  exact ⟨hx1, hx2, hx, hy1, hy2, hy, fun x y => by omega⟩

theorem two_dvd_q {cfg : Config} (hv : cfg.Valid) : 2 ∣ cfg.q := by
  rcases hv.1 with hq | hq
  · exact ⟨1, hq⟩
  · exact ⟨2, hq⟩

theorem q_dvd_alo (cfg : Config) (x : Nat) : cfg.q ∣ alo cfg x := Dvd.intro _ rfl

/-- R82: ALO is the largest multiple of Q that is not above the pixel. -/
theorem le_alo {cfg : Config} (hv : cfg.Valid) {k x : Nat} (hk : cfg.q ∣ k) (hle : k ≤ x) : k ≤ alo cfg x := by
  obtain ⟨c, rfl⟩ := hk
  have hc : c ≤ x / cfg.q := (Nat.le_div_iff_mul_le (q_pos hv)).mpr (by rwa [Nat.mul_comm])
  exact Nat.mul_le_mul_left cfg.q hc

/-- R82: after AHI the next quantum unit begins. -/
theorem ahi_add_one {cfg : Config} (hv : cfg.Valid) (x : Nat) : ahi cfg x + 1 = cfg.q * (x / cfg.q + 1) := by
  have := q_pos hv
  rw [ahi, Nat.mul_add, Nat.mul_one]; omega

theorem q_dvd_ahi_add_one {cfg : Config} (hv : cfg.Valid) (x : Nat) : cfg.q ∣ ahi cfg x + 1 :=
  ⟨_, ahi_add_one hv x⟩

/-- R82: the panel is whole quantum units wide. -/
theorem ahi_le_255 {cfg : Config} (hv : cfg.Valid) {x : Nat} (hx : x ≤ 255) : ahi cfg x ≤ 255 := by
  rcases hv.1 with hq | hq <;> rw [ahi, hq] <;> omega

/-- R82: the aligned width is a multiple of Q. -/
theorem q_dvd_aligned_width {cfg : Config} (hv : cfg.Valid) (x x2 : Nat) : cfg.q ∣ ahi cfg x2 + 1 - alo cfg x :=
  Nat.dvd_sub (q_dvd_ahi_add_one hv x2) (q_dvd_alo cfg x)

/-- R82: the aligned width is even. -/
theorem two_dvd_aligned_width {cfg : Config} (hv : cfg.Valid) (x x2 : Nat) : 2 ∣ ahi cfg x2 + 1 - alo cfg x :=
  (two_dvd_q hv).trans (q_dvd_aligned_width hv x x2)

/-- Settles O22: ALO is a multiple of Q, AHI is one less than the next, and Q is even. -/
theorem alignmentExpandsOutward : Obligations.AlignmentExpandsOutward := by
  intro cfg x hv hx
  have hlo := alo_le cfg x
  have hhi := le_ahi hv x
  have hloEven : 2 ∣ alo cfg x := (two_dvd_q hv).trans (q_dvd_alo cfg x)
  have hhiOdd : 2 ∣ ahi cfg x + 1 := (two_dvd_q hv).trans (q_dvd_ahi_add_one hv x)
  refine ⟨rfl, rfl, q_dvd_alo cfg x, fun k hk hle => le_alo hv hk hle, hlo, hhi, ahi_le_255 hv hx, by omega, by omega,
    fun x2 hx2 _ => ⟨?_, q_dvd_aligned_width hv x x2, two_dvd_aligned_width hv x x2⟩⟩
  have hhi2 := le_ahi hv x2
  omega

theorem alo_div_q {cfg : Config} (hv : cfg.Valid) (x : Nat) : alo cfg x / cfg.q = x / cfg.q :=
  Nat.mul_div_cancel_left _ (q_pos hv)

theorem ahi_div_q {cfg : Config} (hv : cfg.Valid) (x : Nat) : ahi cfg x / cfg.q = x / cfg.q := by
  rcases hv.1 with hq | hq <;> rw [ahi, hq] <;> omega

/-- Settles O23: a quantum unit shares its quotient by Q, which the configuration's constraint keeps inside a byte. -/
theorem addressUnitsFitOneByte : Obligations.AddressUnitsFitOneByte := by
  refine ⟨fun cfg x hv hx => ?_, fun cfg hq => by rw [colUnit, hq], fun y hy => ⟨rfl, hy⟩⟩
  obtain ⟨-, hfits, -⟩ := (valid_iff cfg).mp hv
  refine ⟨rfl, ?_, ?_, Nat.le_add_left .., ?_, hfits⟩
  · rw [colUnit, alo_div_q hv, colUnit]
  · rw [colUnit, ahi_div_q hv, colUnit]
  · have hunit : x / cfg.q ≤ (256 - 1) / cfg.q := Nat.div_le_div_right hx
    unfold colUnit; omega

/-- Settles O24: the four bytes are the address units, which fit. -/
theorem windowDeclaresColumnsThenRows : Obligations.WindowDeclaresColumnsThenRows :=
  fun _ _ _ _ _ hv hcx hcx255 hcy hcy63 =>
    ⟨_, _, _, _, rfl, toNat_colUnit_byte hv (hcx.trans hcx255), toNat_colUnit_byte hv hcx255,
      toNat_rowUnit_byte (hcy.trans hcy63), toNat_rowUnit_byte hcy63⟩

theorem colUnit_sub_colOff (cfg : Config) (x : Nat) : colUnit cfg x - cfg.colOff = x / cfg.q := Nat.add_sub_cancel ..

/-- R86: a quantum unit between those of two pixels holds a pixel between them. -/
theorem exists_pixel_of_unit {cfg : Config} (hv : cfg.Valid) {cx1 cx2 v : Nat} (hcx : cx1 ≤ cx2) (h1 : cx1 / cfg.q ≤ v)
    (h2 : v ≤ cx2 / cfg.q) : ∃ x, cx1 ≤ x ∧ x ≤ cx2 ∧ v * cfg.q ≤ x ∧ x ≤ (v + 1) * cfg.q - 1 := by
  refine ⟨max cx1 (v * cfg.q), ?_⟩
  rcases hv.1 with hq | hq <;> rw [hq] at h1 h2 ⊢ <;> omega

/-- Settles O25: the declared range is whole units, and each of them meets the request. -/
theorem windowCoversAndIsMinimal : Obligations.WindowCoversAndIsMinimal := by
  intro cfg cx1 cx2 hv hcx hcx255
  refine ⟨?_, ?_, alo_le cfg cx1, le_ahi hv cx2, fun u hu1 hu2 => exists_pixel_of_unit hv hcx ?_ ?_⟩
  · rw [colUnit_sub_colOff, Nat.mul_comm, alo]
  · rw [colUnit_sub_colOff, Nat.mul_comm, ← ahi_add_one hv, Nat.add_sub_cancel]
  · rw [← colUnit_sub_colOff]; omega
  · rw [← colUnit_sub_colOff]; omega

/-- R102: the low bits of an expanded 5-bit channel are its top bits. -/
theorem expand5_toNat : ∀ c : BitVec 5, (expand5 c).toNat = 8 * c.toNat + c.toNat / 4 := by decide

/-- R102: the low bits of an expanded 6-bit channel are its top bits. -/
theorem expand6_toNat : ∀ c : BitVec 6, (expand6 c).toNat = 4 * c.toNat + c.toNat / 16 := by decide

/-- Settles O27: the formulas over all channel values; they grow with the channel. -/
theorem channelExpansionReplicatesBits : Obligations.ChannelExpansionReplicatesBits := by
  refine ⟨by decide, by decide, fun c d h => ?_, fun c d h => ?_, by decide⟩
  · rw [expand5_toNat, expand5_toNat]; omega
  · rw [expand6_toNat, expand6_toNat]; omega

/-- R103: each weighted channel is at most 255 times its weight. -/
theorem weighted_le (w : Nat) (c : Byte) : w * c.toNat ≤ 255 * w := by
  have hc := c.isLt
  rw [Nat.mul_comm 255]
  exact Nat.mul_le_mul_left w (by omega)

theorem lumaSum_le (cfg : Config) (r8 g8 b8 : Byte) :
    cfg.wr * r8.toNat + cfg.wg * g8.toNat + cfg.wb * b8.toNat ≤ 255 * (cfg.wr + cfg.wg + cfg.wb) := by
  have hr := weighted_le cfg.wr r8
  have hg := weighted_le cfg.wg g8
  have hb := weighted_le cfg.wb b8
  omega

/-- R103: the luma of a legal configuration fits 8 bits. -/
theorem luma_le_255 {cfg : Config} (hv : cfg.Valid) (r8 g8 b8 : Byte) : luma cfg r8 g8 b8 ≤ 255 := by
  obtain ⟨-, -, hweights, -⟩ := hv
  have hsum := lumaSum_le cfg r8 g8 b8
  rw [luma, Nat.shiftRight_eq_div_pow]; omega

/-- Settles O29: the weights sum to at most 256. -/
theorem lumaFitsEightBits : Obligations.LumaFitsEightBits := by
  refine fun cfg r8 g8 b8 => ⟨rfl, fun hv => ⟨lumaSum_le .., (lumaSum_le cfg r8 g8 b8).trans ?_, luma_le_255 hv ..⟩⟩
  obtain ⟨-, -, hweights, -⟩ := hv
  omega

/-- R44: two bytes, the first in the high half. -/
theorem toNat_append_bytes (hi lo : Byte) : (hi ++ lo : Pixel16).toNat = lo.toNat + 256 * hi.toNat := by
  rw [BitVec.toNat_append, ← Nat.shiftLeft_add_eq_or_of_lt lo.isLt, Nat.shiftLeft_eq]; omega

theorem pixelR_toNat (p : Pixel16) : (pixelR p).toNat = p.toNat / 2048 := by
  have hp := p.isLt
  rw [pixelR, BitVec.extractLsb'_toNat, Nat.shiftRight_eq_div_pow]; omega

theorem pixelG_toNat (p : Pixel16) : (pixelG p).toNat = p.toNat / 32 % 64 := by
  rw [pixelG, BitVec.extractLsb'_toNat, Nat.shiftRight_eq_div_pow]

theorem pixelB_toNat (p : Pixel16) : (pixelB p).toNat = p.toNat % 32 := by
  rw [pixelB, BitVec.extractLsb'_toNat, Nat.shiftRight_zero]

/-- Settles O32: the bytes are appended in the configured order, and the fields are the bits of the pixel. -/
theorem colorPixelBytesAndFields : Obligations.ColorPixelBytesAndFields := by
  refine ⟨fun cfg m0 m1 => ⟨fun hle => ?_, fun hbe => ?_⟩, fun p => ⟨pixelR_toNat p, pixelG_toNat p, pixelB_toNat p⟩⟩
  · rw [pixelOfBytes, hle, if_neg Bool.false_ne_true, toNat_append_bytes]
  · rw [pixelOfBytes, hbe, if_pos rfl, toNat_append_bytes]

/-- R104: nothing of the luma's four top bits is lost. -/
theorem conv16_toNat {cfg : Config} (hv : cfg.Valid) (p : Pixel16) :
    (conv16 cfg p).toNat = luma cfg (expand5 (pixelR p)) (expand6 (pixelG p)) (expand5 (pixelB p)) >>> 4 := by
  have hluma := luma_le_255 hv (expand5 (pixelR p)) (expand6 (pixelG p)) (expand5 (pixelB p))
  rw [conv16, BitVec.toNat_ofNat, Nat.shiftRight_eq_div_pow]
  omega

/-- R103: the luma of three full channels. -/
theorem luma_white (cfg : Config) : luma cfg 255#8 255#8 255#8 = (255 * (cfg.wr + cfg.wg + cfg.wb)) >>> 8 := by
  have hsum : cfg.wr * 255 + cfg.wg * 255 + cfg.wb * 255 = 255 * (cfg.wr + cfg.wg + cfg.wb) := by omega
  exact congrArg (· >>> 8) hsum

/-- R104: white shows full gray exactly when the weights make its luma at least 240. -/
theorem conv16_white_iff {cfg : Config} (hv : cfg.Valid) :
    conv16 cfg 0xFFFF#16 = 15#4 ↔ 240 ≤ (255 * (cfg.wr + cfg.wg + cfg.wb)) >>> 8 := by
  have hR : expand5 (pixelR 0xFFFF#16) = 255#8 := by decide
  have hG : expand6 (pixelG 0xFFFF#16) = 255#8 := by decide
  have hB : expand5 (pixelB 0xFFFF#16) = 255#8 := by decide
  have hgray := conv16_toNat hv 0xFFFF#16
  have hluma := luma_le_255 hv 255#8 255#8 255#8
  rw [hR, hG, hB, Nat.shiftRight_eq_div_pow] at hgray
  rw [← luma_white, ← BitVec.toNat_inj, hgray, BitVec.toNat_ofNat]
  omega

/-- Settles O30: the fields of the pixel make it up, its luma fits, and the worked values are evaluated. -/
theorem colorPixelIsTopOfLuma : Obligations.ColorPixelIsTopOfLuma := by
  refine ⟨fun cfg p hv => ⟨pixelR p, pixelB p, pixelG p, ?_, conv16_toNat hv p⟩, by decide, by decide, by decide, by decide,
    by decide, by decide, fun cfg hv => conv16_white_iff hv⟩
  rw [pixelR_toNat, pixelG_toNat, pixelB_toNat]; omega

/-- R105: the luma does not fall when channels rise. -/
theorem luma_mono (cfg : Config) {r g b r' g' b' : Byte} (hr : r.toNat ≤ r'.toNat) (hg : g.toNat ≤ g'.toNat)
    (hb : b.toNat ≤ b'.toNat) : luma cfg r g b ≤ luma cfg r' g' b' := by
  rw [luma, luma, Nat.shiftRight_eq_div_pow, Nat.shiftRight_eq_div_pow]
  exact Nat.div_le_div_right (Nat.add_le_add (Nat.add_le_add (Nat.mul_le_mul_left _ hr) (Nat.mul_le_mul_left _ hg))
    (Nat.mul_le_mul_left _ hb))

theorem expand5_mono {c d : BitVec 5} (h : c.toNat ≤ d.toNat) : (expand5 c).toNat ≤ (expand5 d).toNat := by
  rw [expand5_toNat, expand5_toNat]; omega

theorem expand6_mono {c d : BitVec 6} (h : c.toNat ≤ d.toNat) : (expand6 c).toNat ≤ (expand6 d).toNat := by
  rw [expand6_toNat, expand6_toNat]; omega

/-- Settles O31: expansion, the weighted sum and the shifts are monotone. -/
theorem conversionIsMonotone : Obligations.ConversionIsMonotone := by
  refine ⟨fun cfg p q hv hR hG hB => ?_, fun b c h => ?_⟩
  · have hluma := luma_mono cfg (expand5_mono hR) (expand6_mono hG) (expand5_mono hB)
    rw [conv16_toNat hv, conv16_toNat hv, Nat.shiftRight_eq_div_pow, Nat.shiftRight_eq_div_pow]
    exact Nat.div_le_div_right hluma
  · rw [toNat_conv8, toNat_conv8, Nat.shiftRight_eq_div_pow, Nat.shiftRight_eq_div_pow]
    exact Nat.div_le_div_right h

/-- R47, R107: where a sampled pixel lies in SRC. -/
theorem pixelAddr_of_clamped {fmt : Fmt} {r : Rect} (base : Nat) {x y : Nat} (hd : ¬ Degenerate r) (hx1 : clampX r.x1 ≤ x)
    (hx2 : x ≤ clampX r.x2) (hy : clampY r.y1 ≤ y) :
    (pixelAddr fmt r base x y : Int) = (base : Int) + (bpp fmt : Int) * pixelIndex r x y := by
  obtain ⟨-, -, h1, h2, h3, -⟩ := clamped_order hd
  exact pixelAddr_cast fmt base (by omega) (by omega) (by omega)

/-- R107: a pixel that reaches past SRC is a SrcFault, whatever SRC holds. -/
theorem fetchPixel_unmapped {cfg : Config} {fmt : Fmt} {a : Nat} (h : cfg.stageBytes < a + bpp fmt) (m : Memory) :
    fetchPixel cfg m fmt a = .error (.srcUnmapped a) := if_pos h

/-- R107: the first byte of a pixel is read first. -/
theorem fetchPixel_unwritten {cfg : Config} {m : Memory} {fmt : Fmt} {a : Nat} (h : a + bpp fmt ≤ cfg.stageBytes)
    (h0 : Memory.read m a = none) : fetchPixel cfg m fmt a = .error (.srcUnwritten a) := by
  unfold fetchPixel
  rw [if_neg (by omega)]
  cases fmt with
  | g8 => simp only [readByte_none h0]
  | rgb565 => simp only [readByte_none h0]

/-- R107: the second byte of a 16-bit pixel is read after the first. -/
theorem fetchPixel_second_unwritten {cfg : Config} {m : Memory} {a : Nat} (h : a + bpp .rgb565 ≤ cfg.stageBytes)
    (h0 : (Memory.read m a).isSome = true) (h1 : Memory.read m (a + 1) = none) :
    fetchPixel cfg m .rgb565 a = .error (.srcUnwritten (a + 1)) := by
  obtain ⟨v, hv⟩ := Option.isSome_iff_exists.mp h0
  unfold fetchPixel
  rw [if_neg (by omega)]
  simp only [readByte_some hv, readByte_none h1]

/-- Settles O33: the margin reads nothing, the rest fetches the pixel at its address. -/
theorem sampleFollowsSourceLayout : Obligations.SampleFollowsSourceLayout := by
  intro cfg m fmt r base x y hd hy1 hy2
  refine ⟨sample_margin, fun hx1 hx2 => ⟨_, pixelAddr_of_clamped base hd hx1 hx2 hy1, ?_⟩⟩
  rw [sample_inside hx1 hx2]
  exact ⟨fun h => fetchPixel_unmapped h m, fun h => ⟨fun n => fetchPixel_ok_iff h, fetchPixel_unwritten h,
    fun h0 hfmt h1 => by subst hfmt; exact fetchPixel_second_unwritten h h0 h1⟩⟩

end Sys2Proof.Proofs
end

section
/-! Flushes: what a flush that samples emits, when it faults, and what of SRC it reads (spec 41_pixel_pipeline.md R111 to R115,
60_exceptions.md R146, 20_memory.md R51). -/

namespace Sys2Proof.Proofs

open Sys2Proof Sys2Proof.Machine Sys2Proof.Laws

/-- The fault of a flush that samples: the first of its aligned rectangle (R115, R146). -/
def liveFault (cfg : Config) (m : Memory) (fmt : Fmt) (r : Rect) (base : Nat) : Option Fault :=
  firstFault (sample cfg m fmt r base) (alo cfg (clampX r.x1)) (clampY r.y1) (ahi cfg (clampX r.x2)) (clampY r.y2)

/-- The gray value a flush shows at a panel position where it does not fault (R107). -/
def shownPixel (cfg : Config) (m : Memory) (fmt : Fmt) (r : Rect) (base x y : Nat) : Nib :=
  valueOf (sample cfg m fmt r base x y)

/-- The rows of a flush that samples (R108, R115). -/
def liveRows (cfg : Config) (m : Memory) (fmt : Fmt) (r : Rect) (base : Nat) : List (List Byte) :=
  packedRows (alo cfg (clampX r.x1)) (clampY r.y1) (ahi cfg (clampX r.x2)) (clampY r.y2) (shownPixel cfg m fmt r base)

/-- The events of a flush that samples and does not fault (R115). -/
def liveEvents (cfg : Config) (m : Memory) (fmt : Fmt) (r : Rect) (base : Nat) : List Event :=
  window cfg (alo cfg (clampX r.x1)) (clampY r.y1) (ahi cfg (clampX r.x2)) (clampY r.y2) ++ optionalRamWrite cfg ++
    (liveRows cfg m fmt r base).map .data ++ [.ack]

/-- R115: a flush with its context and a rectangle on the panel looks for a fault, then emits its events. -/
theorem exec_flush_live {r : Rect} (hd : ¬ Degenerate r) (fmt : Fmt) (base : Nat) (s : State) :
    exec (flushOp fmt true r base) s = (liveFault s.cfg s.src fmt r base).elim
      (.next (complete resOk (emit (liveEvents s.cfg s.src fmt r base) s))) .fault := by
  rw [exec_flushOp]
  rcases flushCore_cases fmt true r base s with ⟨hsilent, -⟩ | ⟨-, -, f, hf, h⟩ | ⟨-, -, hf, h⟩
  · simp [hd] at hsilent
  · rw [h, liveFault, hf]; rfl
  · rw [h, liveFault, hf, stream_eq, ← List.append_assoc]; rfl

/-- R115: a flush whose source is ready completes with its events. -/
theorem exec_flush_ready {fmt : Fmt} {r : Rect} {base : Nat} {s : State} (hv : s.cfg.Valid) (hd : ¬ Degenerate r)
    (hready : SourceReady s fmt r base) : exec (flushOp fmt true r base) s =
      .next (complete resOk (emit (liveEvents s.cfg s.src fmt r base) s)) := by
  have hnone : liveFault s.cfg s.src fmt r base = none := (firstFault_sample_none_iff hv hd).mpr hready
  rw [exec_flush_live hd, hnone]; rfl

/-- R146: a flush that faults ends in the fault of its first sample that has one. -/
theorem exec_flush_fault_iff {fmt : Fmt} {r : Rect} {base : Nat} {s : State} {f : Fault} (hd : ¬ Degenerate r) :
    exec (flushOp fmt true r base) s = .fault f ↔ liveFault s.cfg s.src fmt r base = some f := by
  rw [exec_flush_live hd]
  cases liveFault s.cfg s.src fmt r base <;> simp

/-- R146: a flush that samples faults exactly when its source is not ready. -/
theorem exec_flush_faults_iff {fmt : Fmt} {r : Rect} {base : Nat} {s : State} (hv : s.cfg.Valid) (hd : ¬ Degenerate r) :
    (∃ f, exec (flushOp fmt true r base) s = .fault f) ↔ ¬ SourceReady s fmt r base := by
  rw [← firstFault_sample_none_iff hv hd]
  simp only [exec_flush_fault_iff hd]
  exact Option.ne_none_iff_exists'.symm

/-- R115: a flush that completes after sampling found its source ready and emitted its events. -/
theorem exec_flush_next {fmt : Fmt} {r : Rect} {base : Nat} {s t : State} (hv : s.cfg.Valid) (hd : ¬ Degenerate r)
    (h : exec (flushOp fmt true r base) s = .next t) :
    SourceReady s fmt r base ∧ t = complete resOk (emit (liveEvents s.cfg s.src fmt r base) s) := by
  have hready : SourceReady s fmt r base := by
    by_contra hnot
    obtain ⟨f, hf⟩ := (exec_flush_faults_iff hv hd).mpr hnot
    rw [hf] at h; cases h
  rw [exec_flush_ready hv hd hready] at h
  cases h
  exact ⟨hready, rfl⟩

/-- R107: a ready pixel is fetched, with the value its bytes stand for. -/
theorem sourcePixel_of_ready {cfg : Config} {m : Memory} {fmt : Fmt} {a : Nat} (h : PixelReady cfg m fmt a) :
    SourcePixel cfg m a (valueOf (fetchPixel cfg m fmt a)) fmt := by
  have hok := (fetchPixel_ready cfg m fmt a).mpr h
  cases hf : fetchPixel cfg m fmt a with
  | error f => rw [hf] at hok; cases hok
  | ok n => exact (fetchPixel_ok_iff h.1).mp hf

/-- R107: on the rows of its rectangle a flush whose source is ready shows the sample. -/
theorem sampleIs_shownPixel {s : State} {fmt : Fmt} {r : Rect} {base : Nat} (hready : SourceReady s fmt r base) (x : Nat)
    {y : Nat} (hy1 : clampY r.y1 ≤ y) (hy2 : y ≤ clampY r.y2) :
    SampleIs s fmt r base x y (shownPixel s.cfg s.src fmt r base x y) := by
  refine ⟨fun hmargin => ?_, fun hx1 hx2 => ?_⟩
  · rw [shownPixel, sample_margin hmargin]; rfl
  · rw [shownPixel, sample_inside hx1 hx2]
    exact sourcePixel_of_ready (hready x y hx1 hx2 hy1 hy2)

/-- R82, R85: the window of the aligned rectangle, in address units that fit their bytes. -/
theorem window_aligned {cfg : Config} (hv : cfg.Valid) (r : Rect) : ∃ cs ce ys ye : Byte,
    window cfg (alo cfg (clampX r.x1)) (clampY r.y1) (ahi cfg (clampX r.x2)) (clampY r.y2) =
      [.cmd cfg.opcSetCol [cs, ce], .cmd cfg.opcSetRow [ys, ye]] ∧
    cs.toNat = clampX r.x1 / cfg.q + cfg.colOff ∧ ce.toNat = clampX r.x2 / cfg.q + cfg.colOff ∧
    ys.toNat = clampY r.y1 ∧ ye.toNat = clampY r.y2 := by
  refine ⟨_, _, _, _, rfl, ?_, ?_, toNat_rowUnit_byte (clampY_le _), toNat_rowUnit_byte (clampY_le _)⟩
  · rw [toNat_colUnit_byte hv ((alo_le ..).trans (clampX_le _)), alo_div_q hv]
  · rw [toNat_colUnit_byte hv (ahi_le_255 hv (clampX_le _)), ahi_div_q hv]

/-- R82: the aligned rectangle holds the clamped one. -/
theorem aligned_order {cfg : Config} (hv : cfg.Valid) {r : Rect} (hd : ¬ Degenerate r) :
    alo cfg (clampX r.x1) ≤ ahi cfg (clampX r.x2) := by
  obtain ⟨hx, -⟩ := clamped_order hd
  exact ((alo_le ..).trans hx).trans (le_ahi hv _)

/-- R87, R108: two pixels a byte, a row of the aligned rectangle has half its width. -/
theorem two_mul_row_length {cfg : Config} (hv : cfg.Valid) {r : Rect} (hd : ¬ Degenerate r) :
    2 * ((ahi cfg (clampX r.x2) - alo cfg (clampX r.x1) + 1) / 2) =
      ahi cfg (clampX r.x2) + 1 - alo cfg (clampX r.x1) := by
  have heven := two_dvd_aligned_width hv (clampX r.x1) (clampX r.x2)
  have horder := aligned_order hv hd
  omega

/-- Settles O40: the events of a flush that samples, byte by byte. -/
theorem flushStreamsConvertedPixels : Obligations.FlushStreamsConvertedPixels := by
  intro fmt r base s hv hd hready
  obtain ⟨cs, ce, ys, ye, hwindow, hcs, hce, hys, hye⟩ := window_aligned hv r
  obtain ⟨-, hrows, -⟩ := clamped_order hd
  refine ⟨_, exec_flush_ready hv hd hready, rfl, rfl, cs, ce, ys, ye, liveRows s.cfg s.src fmt r base, ?_, hcs, hce, hys, hye,
    packedRows_length .., fun j row hrow => ?_⟩
  · rw [complete_trace, emit_trace, liveEvents, hwindow]
  · obtain ⟨hj, rfl⟩ := row_of_packedRows hrow
    refine ⟨by rw [packedRow_length, two_mul_row_length hv hd], fun i b hb => ?_⟩
    have hsample (x : Nat) := sampleIs_shownPixel hready x (y := clampY r.y1 + j) (by omega) (by omega)
    exact ⟨_, _, (byte_of_packedRow hb).2, hsample _, hsample _⟩

/-- R107, R146: the two ways a pixel cannot be read. -/
theorem fetchPixel_error {cfg : Config} {m : Memory} {fmt : Fmt} {a : Nat} {f : Fault}
    (h : fetchPixel cfg m fmt a = .error f) : (f = .srcUnmapped a ∧ cfg.stageBytes < a + bpp fmt) ∨
      ∃ k, k < bpp fmt ∧ f = .srcUnwritten (a + k) ∧ a + bpp fmt ≤ cfg.stageBytes ∧ Memory.read m (a + k) = none := by
  by_cases hmap : cfg.stageBytes < a + bpp fmt
  · rw [fetchPixel_unmapped hmap] at h; cases h; exact .inl ⟨rfl, hmap⟩
  have hin : a + bpp fmt ≤ cfg.stageBytes := Nat.le_of_not_lt hmap
  cases h0 : Memory.read m a with
  | none => rw [fetchPixel_unwritten hin h0] at h; cases h; exact .inr ⟨0, bpp_pos fmt, rfl, hin, h0⟩
  | some v =>
    cases fmt with
    | g8 => rw [(fetchPixel_ok_iff hin).mpr ⟨v, h0, rfl⟩] at h; cases h
    | rgb565 =>
      cases h1 : Memory.read m (a + 1) with
      | none =>
        rw [fetchPixel_second_unwritten hin (by rw [h0]; rfl) h1] at h; cases h; exact .inr ⟨1, by decide, rfl, hin, h1⟩
      | some w => rw [(fetchPixel_ok_iff hin).mpr ⟨v, w, h0, h1, rfl⟩] at h; cases h

/-- R146: the fault of a flush is the fault of a pixel it samples. -/
theorem fetchPixel_of_liveFault {cfg : Config} {m : Memory} {fmt : Fmt} {r : Rect} {base : Nat} {f : Fault}
    (hv : cfg.Valid) (hd : ¬ Degenerate r) (h : liveFault cfg m fmt r base = some f) :
    ∃ x y, clampX r.x1 ≤ x ∧ x ≤ clampX r.x2 ∧ clampY r.y1 ≤ y ∧ y ≤ clampY r.y2 ∧
      fetchPixel cfg m fmt (pixelAddr fmt r base x y) = .error f := by
  obtain ⟨⟨x, y⟩, hmem, hpx⟩ := firstFault_some h
  obtain ⟨-, hrows, -⟩ := clamped_order hd
  obtain ⟨-, -, hy1, hy2⟩ := (mem_raster (aligned_order hv hd) hrows _).mp hmem
  have hin : ¬ (x < clampX r.x1 ∨ clampX r.x2 < x) := fun hmargin => by
    rw [sample_margin hmargin] at hpx; cases hpx
  have hx1 : clampX r.x1 ≤ x := by omega
  have hx2 : x ≤ clampX r.x2 := by omega
  exact ⟨x, y, hx1, hx2, hy1, hy2, (sample_inside hx1 hx2).symm.trans hpx⟩

/-- Settles O41: the fault is that of a sampled pixel, which is outside SRC or has an unwritten byte. -/
theorem flushFaultsExactlyWhenSourceNotReady : Obligations.FlushFaultsExactlyWhenSourceNotReady := by
  intro fmt r base s hv hd
  refine ⟨exec_flush_faults_iff hv hd, fun a h => ?_, fun a h => ?_⟩
  all_goals
    obtain ⟨x, y, hx1, hx2, hy1, hy2, hf⟩ := fetchPixel_of_liveFault hv hd ((exec_flush_fault_iff hd).mp h)
    obtain ⟨heq, hmap⟩ | ⟨k, hk, heq, hmap, hnone⟩ := fetchPixel_error hf <;> cases heq
  · exact ⟨hmap, x, y, hx1, hx2, hy1, hy2, rfl⟩
  · exact ⟨by omega, hnone, x, y, k, hx1, hx2, hy1, hy2, hk, rfl⟩

/-- R115: addresses rise in raster order, so the last pixel of the clamped rectangle has the largest. -/
theorem pixelIndex_le_last {r : Rect} {x y : Nat} (hd : ¬ Degenerate r) (hx : x ≤ clampX r.x2) (hy : y ≤ clampY r.y2) :
    pixelIndex r x y ≤ pixelIndex r (clampX r.x2) (clampY r.y2) := by
  have hwidth : 0 ≤ r.x2 - r.x1 + 1 := by rw [degenerate_iff] at hd; omega
  have hrow : ((y : Int) - r.y1) * (r.x2 - r.x1 + 1) ≤ ((clampY r.y2 : Int) - r.y1) * (r.x2 - r.x1 + 1) :=
    Int.mul_le_mul_of_nonneg_right (by omega) hwidth
  unfold pixelIndex; omega

/-- R115: no sampled pixel has a larger address than the last. -/
theorem pixelAddr_le_last (fmt : Fmt) {r : Rect} (base : Nat) {x y : Nat} (hd : ¬ Degenerate r) (hx : x ≤ clampX r.x2)
    (hy : y ≤ clampY r.y2) : pixelAddr fmt r base x y ≤ pixelAddr fmt r base (clampX r.x2) (clampY r.y2) := by
  have hmul : (bpp fmt : Int) * pixelIndex r x y ≤ (bpp fmt : Int) * pixelIndex r (clampX r.x2) (clampY r.y2) :=
    Int.mul_le_mul_of_nonneg_left (pixelIndex_le_last hd hx hy) (Int.natCast_nonneg _)
  unfold pixelAddr; omega

/-- R146: where every byte of SRC is written, a pixel is ready exactly when it lies inside SRC. -/
theorem pixelReady_iff_of_written {cfg : Config} {m : Memory} (hw : ∀ a, a < cfg.stageBytes → (Memory.read m a).isSome = true)
    (fmt : Fmt) (a : Nat) : PixelReady cfg m fmt a ↔ a + bpp fmt ≤ cfg.stageBytes :=
  ⟨fun h => h.1, fun h => ⟨h, fun k _ => hw _ (by omega)⟩⟩

/-- R115: where every byte of SRC is written, the source is ready exactly when the last sampled pixel lies inside SRC. -/
theorem sourceReady_iff_last {s : State} {fmt : Fmt} {r : Rect} {base : Nat} (hd : ¬ Degenerate r)
    (hw : ∀ a, a < s.cfg.stageBytes → (Memory.read s.src a).isSome = true) :
    SourceReady s fmt r base ↔ pixelAddr fmt r base (clampX r.x2) (clampY r.y2) + bpp fmt ≤ s.cfg.stageBytes := by
  obtain ⟨hx, hy, -⟩ := clamped_order hd
  simp only [SourceReady, pixelReady_iff_of_written hw]
  refine ⟨fun h => h _ _ hx le_rfl hy le_rfl, fun h x y _ hx2 _ hy2 => ?_⟩
  exact (Nat.add_le_add_right (pixelAddr_le_last fmt base hd hx2 hy2) _).trans h

/-- Settles O42: the last sampled pixel decides, and its address is the formula. -/
theorem largestSampledAddressDecides : Obligations.LargestSampledAddressDecides := by
  intro fmt r base s hv hd hw
  obtain ⟨hx, hy, -⟩ := clamped_order hd
  have hlast := pixelAddr_of_clamped (fmt := fmt) base hd hx le_rfl hy
  rw [exec_flush_faults_iff hv hd, sourceReady_iff_last hd hw]
  rw [pixelIndex] at hlast
  omega

/-- R165, R168: every byte of a sampled pixel is in the source region. -/
theorem sampled_byte_inSourceRegion (fmt : Fmt) {r : Rect} (base : Nat) {x y k : Nat} (hd : ¬ Degenerate r)
    (hx1 : clampX r.x1 ≤ x) (hx2 : x ≤ clampX r.x2) (hy1 : clampY r.y1 ≤ y) (hy2 : y ≤ clampY r.y2) (hk : k < bpp fmt) :
    InSourceRegion fmt r base (pixelAddr fmt r base x y + k) := by
  obtain ⟨-, -, h1, h2, h3, h4⟩ := clamped_order hd
  have haddr := pixelAddr_of_clamped (fmt := fmt) base hd hx1 hx2 hy1
  have hnonneg : 0 ≤ pixelIndex r x y := pixelIndex_nonneg (by omega) (by omega) (by omega)
  have hcount : pixelIndex r x y + 1 ≤ (r.x2 - r.x1 + 1) * (r.y2 - r.y1 + 1) := by
    unfold pixelIndex
    nlinarith [mul_nonneg (show (0 : Int) ≤ r.y2 - y by omega) (show (0 : Int) ≤ r.x2 - r.x1 + 1 by omega)]
  have hlow := mul_nonneg (Int.natCast_nonneg (bpp fmt)) hnonneg
  have hhigh := mul_le_mul_of_nonneg_left hcount (Int.natCast_nonneg (bpp fmt))
  rw [mul_add, mul_one, ← mul_assoc] at hhigh
  exact ⟨by omega, by omega⟩

/-- R168: a source region inside SRC and written is ready. -/
theorem sourceReady_of_region {s : State} {fmt : Fmt} {r : Rect} {base : Nat} (hd : ¬ Degenerate r)
    (hin : RegionInside s.cfg fmt r base) (hw : RegionWritten s.src fmt r base) : SourceReady s fmt r base := by
  intro x y hx1 hx2 hy1 hy2
  have hregion {k : Nat} (hk : k < bpp fmt) := sampled_byte_inSourceRegion fmt base hd hx1 hx2 hy1 hy2 hk
  refine ⟨?_, fun k hk => hw _ (hregion hk)⟩
  have hbpp := bpp_pos fmt
  have hlast := (hregion (k := bpp fmt - 1) (by omega)).2
  unfold RegionInside at hin
  omega

/-- Settles O43: a flush that samples finds its source ready, any other reads nothing. -/
theorem regionInsideSrcNeverFaults : Obligations.RegionInsideSrcNeverFaults := by
  intro fmt ctx r base s hv hin hw
  by_cases hsilent : ctx = false ∨ Degenerate r
  · exact ⟨_, exec_flushOp_silent hsilent fmt base s⟩
  · rw [not_or, Bool.not_eq_false] at hsilent
    obtain ⟨rfl, hd⟩ := hsilent
    exact ⟨_, exec_flush_ready hv hd (sourceReady_of_region hd hin hw)⟩

end Sys2Proof.Proofs
end

section
/-! Noninterference: what an operation's outcome does not depend on (spec 20_memory.md R51, 10_state.md R29, R32,
42_integration.md R135). -/

namespace Sys2Proof.Proofs

open Sys2Proof Sys2Proof.Machine Sys2Proof.Laws

/-- R51: fetching a pixel reads the bytes of that pixel only. -/
theorem fetchPixel_congr (cfg : Config) {m m' : Memory} {fmt : Fmt} {a : Nat}
    (h : ∀ k, k < bpp fmt → Memory.read m' (a + k) = Memory.read m (a + k)) :
    fetchPixel cfg m' fmt a = fetchPixel cfg m fmt a := by
  have hbyte (k : Nat) (hk : k < bpp fmt) : readByte m' (a + k) = readByte m (a + k) := by
    rw [readByte, readByte, h k hk]
  unfold fetchPixel
  cases fmt with
  | g8 => rw [← Nat.add_zero a, hbyte 0 (by decide)]
  | rgb565 =>
    have h0 : readByte m' a = readByte m a := hbyte 0 (by decide)
    rw [h0, hbyte 1 (by decide)]

/-- R51: two contents of SRC agree on every byte that a flush of this rectangle samples. -/
def AgreeOnSampled (fmt : Fmt) (r : Rect) (base : Nat) (m m' : Memory) : Prop :=
  ∀ x y k, clampX r.x1 ≤ x → x ≤ clampX r.x2 → clampY r.y1 ≤ y → y ≤ clampY r.y2 → k < bpp fmt →
    Memory.read m' (pixelAddr fmt r base x y + k) = Memory.read m (pixelAddr fmt r base x y + k)

/-- R51: on the rows of its rectangle a sample reads the sampled bytes only. -/
theorem sample_congr (cfg : Config) {fmt : Fmt} {r : Rect} {base : Nat} {m m' : Memory} (h : AgreeOnSampled fmt r base m m')
    (x : Nat) {y : Nat} (hy1 : clampY r.y1 ≤ y) (hy2 : y ≤ clampY r.y2) :
    sample cfg m' fmt r base x y = sample cfg m fmt r base x y := by
  by_cases hmargin : x < clampX r.x1 ∨ clampX r.x2 < x
  · rw [sample_margin hmargin, sample_margin hmargin]
  · have hx1 : clampX r.x1 ≤ x := by omega
    have hx2 : x ≤ clampX r.x2 := by omega
    rw [sample_inside hx1 hx2, sample_inside hx1 hx2]
    exact fetchPixel_congr cfg fun k hk => h x y k hx1 hx2 hy1 hy2 hk

/-- The positions of a rectangle lie on its rows. -/
theorem row_of_mem_raster {ax1 cy1 ax2 cy2 : Nat} (hy : cy1 ≤ cy2) {p : Nat × Nat} (hp : p ∈ raster ax1 cy1 ax2 cy2) :
    cy1 ≤ p.2 ∧ p.2 ≤ cy2 := by
  simp only [raster, List.mem_flatMap, List.mem_map, List.mem_range] at hp
  obtain ⟨j, hj, i, -, rfl⟩ := hp
  exact ⟨Nat.le_add_right .., by omega⟩

/-- The search for the first fault looks at the rows of its rectangle only. -/
theorem firstFault_congr {px px' : Nat → Nat → Except Fault Nib} (ax1 ax2 : Nat) {cy1 cy2 : Nat} (hy : cy1 ≤ cy2)
    (h : ∀ x y, cy1 ≤ y → y ≤ cy2 → px' x y = px x y) :
    firstFault px' ax1 cy1 ax2 cy2 = firstFault px ax1 cy1 ax2 cy2 := by
  rw [firstFault, firstFault, ← List.head?_filterMap, ← List.head?_filterMap]
  refine congrArg _ (List.filterMap_congr fun p hp => ?_)
  obtain ⟨hy1, hy2⟩ := row_of_mem_raster hy hp
  rw [h _ _ hy1 hy2]

/-- The packed rows of a rectangle look at its rows only. -/
theorem packedRows_congr {px px' : Nat → Nat → Nib} (ax1 ax2 : Nat) {cy1 cy2 : Nat} (hy : cy1 ≤ cy2)
    (h : ∀ x y, cy1 ≤ y → y ≤ cy2 → px' x y = px x y) :
    packedRows ax1 cy1 ax2 cy2 px' = packedRows ax1 cy1 ax2 cy2 px := by
  refine List.map_congr_left fun j hj => List.map_congr_left fun i _ => ?_
  have hj : j < cy2 - cy1 + 1 := List.mem_range.mp hj
  rw [h _ _ (by omega) (by omega), h _ _ (by omega) (by omega)]

theorem liveFault_congr {cfg : Config} {fmt : Fmt} {r : Rect} {base : Nat} {m m' : Memory} (hd : ¬ Degenerate r)
    (h : AgreeOnSampled fmt r base m m') :
    liveFault cfg m' fmt r base = liveFault cfg m fmt r base := by
  obtain ⟨-, hrows, -⟩ := clamped_order hd
  exact firstFault_congr _ _ hrows fun x y hy1 hy2 => sample_congr cfg h x hy1 hy2

theorem liveEvents_congr {cfg : Config} {fmt : Fmt} {r : Rect} {base : Nat} {m m' : Memory} (hd : ¬ Degenerate r)
    (h : AgreeOnSampled fmt r base m m') : liveEvents cfg m' fmt r base = liveEvents cfg m fmt r base := by
  obtain ⟨-, hrows, -⟩ := clamped_order hd
  have hpixels : liveRows cfg m' fmt r base = liveRows cfg m fmt r base :=
    packedRows_congr _ _ hrows fun x y hy1 hy2 => congrArg valueOf (sample_congr cfg h x hy1 hy2)
  rw [liveEvents, liveEvents, hpixels]

/-- R51, R115: a flush on another SRC that agrees on the sampled bytes has the same outcome. -/
theorem exec_flush_agree {fmt : Fmt} {r : Rect} {base : Nat} {s : State} {m : Memory} (hd : ¬ Degenerate r)
    (h : AgreeOnSampled fmt r base s.src m) :
    exec (flushOp fmt true r base) { s with src := m } = (liveFault s.cfg s.src fmt r base).elim
      (.next (complete resOk (emit (liveEvents s.cfg s.src fmt r base) { s with src := m }))) .fault := by
  rw [exec_flush_live hd, liveFault_congr hd h, liveEvents_congr hd h]

/-- R51: what a flush answers on a SRC that agrees on the sampled bytes. -/
theorem flush_ignores_unsampled {fmt : Fmt} {ctx : Bool} {r : Rect} {base : Nat} {s : State} {m : Memory}
    (h : AgreeOnSampled fmt r base s.src m) :
    (∀ t, exec (flushOp fmt ctx r base) s = .next t →
      exec (flushOp fmt ctx r base) { s with src := m } = .next { t with src := m }) ∧
    (∀ f, exec (flushOp fmt ctx r base) s = .fault f → exec (flushOp fmt ctx r base) { s with src := m } = .fault f) := by
  by_cases hsilent : ctx = false ∨ Degenerate r
  · rw [exec_flushOp_silent hsilent, exec_flushOp_silent hsilent]
    exact ⟨fun t ht => by cases ht; rfl, nofun⟩
  · rw [not_or, Bool.not_eq_false] at hsilent
    obtain ⟨rfl, hd⟩ := hsilent
    rw [exec_flush_live hd, exec_flush_agree hd h]
    cases liveFault s.cfg s.src fmt r base with
    | none => exact ⟨fun t ht => by cases ht; rfl, nofun⟩
    | some f => exact ⟨nofun, fun g hg => hg⟩

/-- R135: an operation that is no flush reads no byte of SRC. -/
theorem exec_ignores_src {i : Instr} {s t : State} (m : Memory) (hi : ∀ fmt ctx r base, i ≠ flushOp fmt ctx r base)
    (h : exec i s = .next t) : exec i { s with src := m } = .next { t with src := m } := by
  cases i with
  | setwin r => cases h; rfl
  | fill v => cases h; rfl
  | tpat => cases h; rfl
  | flush8 ctx r base => exact absurd rfl (hi .g8 ctx r base)
  | flush16 ctx r base => exact absurd rfl (hi .rgb565 ctx r base)
  | round r => cases h; rfl
  | setup lines fmt =>
    by_cases hacc : SetupAccepts s.cfg lines fmt
    · rw [exec_setup_accepted hacc] at h; cases h; exact exec_setup_accepted hacc
    · rw [exec_setup_refused hacc] at h; cases h; exact exec_setup_refused hacc

/-- Settles O53: a flush reads the sampled bytes only, and no other operation reads SRC. -/
theorem unsampledSourceBytesAreInvisible : Obligations.UnsampledSourceBytesAreInvisible :=
  ⟨fun _ _ _ _ _ _ h => flush_ignores_unsampled h, fun _ _ _ m hi h => exec_ignores_src m hi h⟩

/-- The observable outcome of one operation is also that of another: the same events, result code and BUSY, or the same
fault. -/
def SameOutcome (a b : Host.Outcome State Fault Refusal) : Prop :=
  (∀ t, a = .next t → ∃ u, b = .next u ∧ u.trace = t.trace ∧ u.res = t.res ∧ u.busy = t.busy) ∧
    ∀ f, a = .fault f → b = .fault f

theorem sameOutcome_next {t u : State} (htrace : u.trace = t.trace) (hres : u.res = t.res) (hbusy : u.busy = t.busy) :
    SameOutcome (.next t) (.next u) :=
  ⟨fun t' ht => ⟨u, rfl, by cases ht; exact ⟨htrace, hres, hbusy⟩⟩, nofun⟩

/-- R29, R32: a flush reads CFG and SRC, and appends to the trace. -/
theorem flush_sameOutcome (fmt : Fmt) (ctx : Bool) (r : Rect) (base : Nat) {s s' : State} (hcfg : s'.cfg = s.cfg)
    (hsrc : s'.src = s.src) (htrace : s'.trace = s.trace) :
    SameOutcome (exec (flushOp fmt ctx r base) s) (exec (flushOp fmt ctx r base) s') := by
  by_cases hsilent : ctx = false ∨ Degenerate r
  · rw [exec_flushOp_silent hsilent, exec_flushOp_silent hsilent]
    exact sameOutcome_next (by simp [htrace]) rfl rfl
  · rw [not_or, Bool.not_eq_false] at hsilent
    obtain ⟨rfl, hd⟩ := hsilent
    rw [exec_flush_live hd, exec_flush_live hd, hcfg, hsrc]
    cases liveFault s.cfg s.src fmt r base with
    | none => exact sameOutcome_next (by simp [htrace]) rfl rfl
    | some f => exact ⟨nofun, fun g hg => hg⟩

/-- R29, R32: SETUP reads CFG, and leaves the trace. -/
theorem setup_sameOutcome (lines : Nat) (fmt : Fmt) {s s' : State} (hcfg : s'.cfg = s.cfg) (htrace : s'.trace = s.trace) :
    SameOutcome (exec (.setup lines fmt) s) (exec (.setup lines fmt) s') := by
  by_cases hacc : SetupAccepts s.cfg lines fmt
  · rw [exec_setup_accepted hacc, exec_setup_accepted (hcfg ▸ hacc)]
    exact sameOutcome_next htrace rfl rfl
  · rw [exec_setup_refused hacc, exec_setup_refused (hcfg ▸ hacc)]
    exact sameOutcome_next htrace rfl rfl

/-- Settles O54: every operation reads CFG and SRC only, which `withResults` keeps. -/
theorem resultRegistersInfluenceNothing : Obligations.ResultRegistersInfluenceNothing := by
  intro i s res rx1 ry1 rx2 ry2 done lines fmt
  change SameOutcome (exec i s) (exec i (withResults s res rx1 ry1 rx2 ry2 done lines fmt))
  cases i with
  | setwin r => exact sameOutcome_next rfl rfl rfl
  | fill v => exact sameOutcome_next rfl rfl rfl
  | tpat => exact sameOutcome_next rfl rfl rfl
  | flush8 ctx r base => exact flush_sameOutcome .g8 ctx r base rfl rfl rfl
  | flush16 ctx r base => exact flush_sameOutcome .rgb565 ctx r base rfl rfl rfl
  | round r => exact sameOutcome_next rfl rfl rfl
  | setup n f => exact setup_sameOutcome n f rfl rfl

end Sys2Proof.Proofs
end

section
/-! The bus: chip-select brackets and the flattened stream (spec 20_memory.md R45, R46, 70_reset_and_hazards.md R170). -/

namespace Sys2Proof.Proofs

open Sys2Proof Sys2Proof.Machine

/-- R45: inside a bracket any number of bytes may be shifted. -/
theorem bracketsClosed_shifts (bs : List Byte) (w : List WireAct) :
    bracketsClosed true (bs.map (WireAct.shift true) ++ w) = bracketsClosed true w := by
  induction bs with
  | nil => rfl
  | cons b bs ih => simpa [bracketsClosed] using ih

/-- R45, R170: the wire form of an event leaves chip-select released, as it found it. -/
theorem bracketsClosed_wire (e : Event) (w : List WireAct) :
    bracketsClosed false (wire e ++ w) = bracketsClosed false w := by
  cases e with
  | cmd op ps => simp [wire, bracketsClosed, bracketsClosed_shifts]
  | data bs => simp [wire, bracketsClosed, bracketsClosed_shifts]
  | ack => rfl

/-- R170: every bracket of a trace is closed. -/
theorem bracketsClosed_trace (T : List Event) : bracketsClosed false (T.flatMap wire) = true := by
  induction T with
  | nil => rfl
  | cons e T ih => rw [List.flatMap_cons, bracketsClosed_wire, ih]

theorem shifted_append (v w : List WireAct) : shifted (v ++ w) = shifted v ++ shifted w := by
  induction v with
  | nil => rfl
  | cons a v ih => cases a <;> simp [shifted, ih]

theorem shifted_shifts (bs : List Byte) : shifted (bs.map (WireAct.shift true)) = bs.map fun b => (true, b) := by
  induction bs with
  | nil => rfl
  | cons b bs ih => simp [shifted, ih]

theorem flatBytes_append (T U : List Event) : flatBytes (T ++ U) = flatBytes T ++ flatBytes U := by
  simp [flatBytes, bus]

/-- R45, R46: the bytes an event shifts on the wire are its bytes in the flattened stream. -/
theorem shifted_wire (e : Event) : shifted (wire e) = flatBytes [e] := by
  cases e with
  | cmd op ps => simp [wire, shifted, shifted_append, shifted_shifts, flatBytes, bus, busEvent, eventBytes]
  | data bs => simp [wire, shifted, shifted_append, shifted_shifts, flatBytes, bus, busEvent, eventBytes]
  | ack => rfl

/-- R46: the bytes shifted on the wire are the flattened stream. -/
theorem shifted_trace (T : List Event) : shifted (T.flatMap wire) = flatBytes T := by
  induction T with
  | nil => rfl
  | cons e T ih => rw [List.flatMap_cons, shifted_append, shifted_wire, ih, ← flatBytes_append, List.singleton_append]

theorem count_map_shift {a : WireAct} (h : ∀ b, WireAct.shift true b ≠ a) (bs : List Byte) :
    (bs.map (WireAct.shift true)).count a = 0 := by
  rw [List.count_eq_zero, List.mem_map]
  exact fun ⟨b, _, hb⟩ => h b hb

/-- R45: a transaction asserts chip-select once, first, and releases it once, last. -/
theorem wire_one_bracket {e : Event} (h : e ≠ .ack) : (wire e).count .csAssert = 1 ∧ (wire e).count .csRelease = 1 ∧
    (wire e).head? = some .csAssert ∧ (wire e).getLast? = some .csRelease := by
  have hassert := count_map_shift (a := .csAssert) nofun
  have hrelease := count_map_shift (a := .csRelease) nofun
  cases e with
  | cmd op ps => simp [wire, hassert, hrelease, List.getLast?_cons]
  | data bs => simp [wire, hassert, hrelease, List.getLast?_cons]
  | ack => exact absurd rfl h

/-- Settles O55: event by event, then over the trace. -/
theorem everyBracketIsReleased : Obligations.EveryBracketIsReleased :=
  ⟨fun _ _ => rfl, fun _ => rfl, rfl, fun _ => wire_one_bracket, fun T => ⟨bracketsClosed_trace T, shifted_trace T⟩⟩

/-- R46: two `Data` transactions have the bytes of the one that joins them. -/
theorem flatBytes_data_append (a b : List Byte) : flatBytes [.data a, .data b] = flatBytes [.data (a ++ b)] := by
  simp [flatBytes, bus, busEvent, eventBytes]

/-- Settles O56: the flattened stream is taken event by event, and an `Ack` has no bytes. -/
theorem framingDoesNotChangeFlatStream : Obligations.FramingDoesNotChangeFlatStream := by
  refine fun T U a b => ⟨?_, ?_⟩
  · simp only [flatBytes_append, flatBytes_data_append]
  · simp only [flatBytes_append]
    exact congrArg (· ++ flatBytes U) (List.append_nil _)

end Sys2Proof.Proofs
end

section
/-! Issued descriptors: how an operation ends, its acknowledgments, and who writes which register (spec 10_state.md R21 to R34,
41_pixel_pipeline.md R114, 70_reset_and_hazards.md R172). -/

namespace Sys2Proof.Proofs

open Sys2Proof Sys2Proof.Machine Sys2Proof.Laws

/-- Settles O4: the offer is the next move, and the descriptor's bits make it up. -/
theorem stepRunsDecodedInstruction : Obligations.StepRunsDecodedInstruction := by
  refine ⟨fun s d i ms hv hidle hh hd => step_issue_legal hv hidle hh hd, fun s d i hv hd => ?_⟩
  have hword : s.withFetchWord 128 d.toNat = offer d s := by
    rw [State.withFetchWord, Nat.mod_eq_of_lt d.isLt, BitVec.ofNat_toNat, BitVec.setWidth_eq]
  rw [hword]
  exact step_issue_legal (ms := s.host) hv rfl rfl hd

/-- R21: an offer while busy is dropped. -/
theorem issue_busy {s : State} (hb : s.busy = true) (d : Desc) : issue d s = .next s := if_pos hb

/-- Settles O5: a busy block drops the offer, and without a move the step waits. -/
theorem offerWhileBusyHasNoEffect : Obligations.OfferWhileBusyHasNoEffect := by
  refine ⟨fun s d ms hv hb hh => ?_, fun s hv hnil => ?_⟩
  · rw [step_eq_perform hv hh]
    exact issue_busy (s := dropMove ms s) hb d
  · rw [step, if_pos hv, nextMove, hnil]

/-- Settles O7: an illegal descriptor completes, a legal one completes or is a flush that samples and faults. -/
theorem everyIssuedOperationEnds : Obligations.EveryIssuedOperationEnds := by
  intro s d ms hv hidle hh
  cases hd : decode d with
  | error e => exact .inl ⟨_, step_issue_illegal hv hidle hh hd, rfl, rfl, rfl⟩
  | ok i =>
    rw [step_issue_legal hv hidle hh hd]
    rcases exec_cases i (latch d (dropMove ms s)) with ⟨t, ht, he⟩ | ⟨f, -, -, -, -, -, hf⟩
    · exact .inl ⟨t, ht, he.idle, he.dl, he.host⟩
    · obtain ⟨fmt, r, base, rfl, hlive⟩ := exec_fault hf
      have hnot : ¬ SourceReady s fmt r base :=
        (exec_flush_faults_iff (s := latch d (dropMove ms s)) hv hlive).mp ⟨f, hf⟩
      exact .inr ⟨f, fmt, r, base, hf, rfl, hlive, hnot⟩

/-- R63, R64: the operation code of a legal descriptor is the instruction's. -/
theorem opc_of_decode {d : Desc} {i : Instr} (h : decode d = .ok i) : d.opc = i.opcode := by
  obtain ⟨-, hreq⟩ := (decode_eq_ok_iff d i).mp h
  cases i <;> exact hreq.1

/-- R63: the instructions with the operation code of a flush are the flushes. -/
theorem isFlush_of_opcode {i : Instr} (h : i.opcode = 0x04#8 ∨ i.opcode = 0x05#8) :
    ∃ fmt ctx r base, i = flushOp fmt ctx r base := by
  cases i with
  | flush8 ctx r base => exact ⟨.g8, ctx, r, base, rfl⟩
  | flush16 ctx r base => exact ⟨.rgb565, ctx, r, base, rfl⟩
  | _ => simp [Instr.opcode] at h

theorem flushOp_opcode (fmt : Fmt) (ctx : Bool) (r : Rect) (base : Nat) :
    (flushOp fmt ctx r base).opcode = 0x04#8 ∨ (flushOp fmt ctx r base).opcode = 0x05#8 := by
  cases fmt with
  | g8 => exact .inl rfl
  | rgb565 => exact .inr rfl

theorem acks_optionalRamWrite (cfg : Config) : acks (optionalRamWrite cfg) = 0 := by
  unfold optionalRamWrite
  cases cfg.opcRamWr with
  | none => rfl
  | some c => rfl

/-- R114: windows and streams hold no `Ack`. -/
theorem acks_window_rows (cfg : Config) (cx1 cy1 cx2 cy2 : Nat) (rows : List (List Byte)) :
    acks (window cfg cx1 cy1 cx2 cy2 ++ optionalRamWrite cfg ++ rows.map .data) = 0 := by
  rw [acks_append, acks_append, acks_optionalRamWrite, acks_map_data]; rfl

/-- R114: a flush that completes emits its one `Ack` last. -/
theorem exec_flush_acks (fmt : Fmt) (ctx : Bool) (r : Rect) (base : Nat) (s : State) :
    (∃ f, exec (flushOp fmt ctx r base) s = .fault f) ∨
      ∃ t es, exec (flushOp fmt ctx r base) s = .next t ∧ t.trace = s.trace ++ es ++ [.ack] ∧ acks es = 0 := by
  by_cases hsilent : ctx = false ∨ Degenerate r
  · exact .inr ⟨_, [], exec_flushOp_silent hsilent fmt base s, by simp, rfl⟩
  · rw [not_or, Bool.not_eq_false] at hsilent
    obtain ⟨rfl, hd⟩ := hsilent
    rw [exec_flush_live hd]
    cases liveFault s.cfg s.src fmt r base with
    | some f => exact .inl ⟨f, rfl⟩
    | none => exact .inr ⟨_, _, rfl, (List.append_assoc ..).symm, acks_window_rows ..⟩

theorem acks_setwinEvents (cfg : Config) (r : Rect) : acks (setwinEvents cfg r) = 0 := by
  by_cases hd : Degenerate r
  · rw [setwinEvents_degenerate cfg hd]; rfl
  · rw [setwinEvents, if_neg hd]; rfl

theorem acks_fullPanel (cfg : Config) (px : Nat → Nat → Nib) : acks (fullPanel cfg px) = 0 := by
  rw [fullPanel_eq, acks_window_rows]

/-- R114: an operation that is no flush completes without an `Ack`. -/
theorem exec_other_acks {i : Instr} (hi : ∀ fmt ctx r base, i ≠ flushOp fmt ctx r base) (s : State) :
    ∃ t es, exec i s = .next t ∧ t.trace = s.trace ++ es ∧ acks es = 0 := by
  cases i with
  | setwin r => exact ⟨_, _, exec_setwin r s, rfl, acks_setwinEvents ..⟩
  | fill v => exact ⟨_, _, exec_fill v s, rfl, acks_fullPanel ..⟩
  | tpat => exact ⟨_, _, exec_tpat s, rfl, acks_fullPanel ..⟩
  | flush8 ctx r base => exact absurd rfl (hi .g8 ctx r base)
  | flush16 ctx r base => exact absurd rfl (hi .rgb565 ctx r base)
  | round r => exact ⟨_, [], exec_round r s, (List.append_nil _).symm, rfl⟩
  | setup lines fmt =>
    by_cases hacc : SetupAccepts s.cfg lines fmt
    · exact ⟨_, [], exec_setup_accepted hacc, (List.append_nil _).symm, rfl⟩
    · exact ⟨_, [], exec_setup_refused hacc, (List.append_nil _).symm, rfl⟩

/-- Settles O17: legal or not, the code says whether the descriptor is a flush's. -/
theorem oneAckPerFlushDescriptor : Obligations.OneAckPerFlushDescriptor := by
  intro s d ms hv hidle hh
  refine ⟨fun hflush => ?_, fun h4 h5 => ?_, fun fmt ctx r base hd hsilent => ?_⟩
  · cases hd : decode d with
    | error e =>
      exact .inr ⟨_, [], step_issue_illegal hv hidle hh hd, by rw [takeIllegal_trace_flush hflush]; simp, rfl⟩
    | ok i =>
      have hcode : d.opc = 0x04#8 ∨ d.opc = 0x05#8 := hflush
      rw [opc_of_decode hd] at hcode
      obtain ⟨fmt, ctx, r, base, rfl⟩ := isFlush_of_opcode hcode
      rw [step_issue_legal hv hidle hh hd]
      exact exec_flush_acks fmt ctx r base _
  · cases hd : decode d with
    | error e =>
      exact ⟨_, [], step_issue_illegal hv hidle hh hd, by rw [takeIllegal_trace_other h4 h5]; simp, rfl⟩
    | ok i =>
      rw [step_issue_legal hv hidle hh hd]
      refine exec_other_acks (fun fmt ctx r base hi => ?_) _
      have hcode := flushOp_opcode fmt ctx r base
      rw [← hi, ← opc_of_decode hd] at hcode
      exact hcode.elim h4 h5
  · exact ⟨_, (step_issue_legal hv hidle hh hd).trans (exec_flushOp_silent hsilent fmt base _), rfl⟩

/-- R27: which moves can change RX1..RY2. -/
theorem perform_rect {m : HostMove} {s t : State} (h : perform m s = .next t) :
    SameRect s t ∨ m = .rst ∨ ∃ d r, m = .issue d ∧ decode d = .ok (.round r) := by
  rcases perform_next h with ⟨d, rfl, hissue⟩ | ⟨a, v, -, -, rfl⟩ | ⟨rfl, -, -⟩ | ⟨-, v, rfl | rfl⟩
  · rcases issue_next hissue with ⟨-, rfl⟩ | ⟨-, -, rfl⟩ | ⟨-, i, hd, hexec, -⟩
    · exact .inl ⟨rfl, rfl, rfl, rfl, rfl⟩
    · exact .inl ⟨rfl, rfl, rfl, rfl, rfl⟩
    · rcases sameRect_or_round hexec with hsame | ⟨r, rfl⟩
      · exact .inl hsame
      · exact .inr (.inr ⟨d, r, rfl, hd⟩)
  · exact .inl ⟨rfl, rfl, rfl, rfl, rfl⟩
  · exact .inr (.inl rfl)
  all_goals exact .inl ⟨rfl, rfl, rfl, rfl, rfl⟩

/-- R29: which moves can change STG_LINES and STG_FMT. -/
theorem perform_staging {m : HostMove} {s t : State} (h : perform m s = .next t) :
    SameStaging s t ∨ m = .rst ∨ ∃ d lines fmt, m = .issue d ∧ decode d = .ok (.setup lines fmt) := by
  rcases perform_next h with ⟨d, rfl, hissue⟩ | ⟨a, v, -, -, rfl⟩ | ⟨rfl, -, -⟩ | ⟨-, v, rfl | rfl⟩
  · rcases issue_next hissue with ⟨-, rfl⟩ | ⟨-, -, rfl⟩ | ⟨-, i, hd, hexec, -⟩
    · exact .inl ⟨rfl, rfl⟩
    · exact .inl ⟨rfl, rfl⟩
    · rcases sameStaging_or_setup hexec with hsame | ⟨lines, fmt, rfl⟩
      · exact .inl hsame
      · exact .inr (.inr ⟨d, lines, fmt, rfl, hd⟩)
  · exact .inl ⟨rfl, rfl⟩
  · exact .inr (.inl rfl)
  all_goals exact .inl ⟨rfl, rfl⟩

/-- R26: which moves can change DL. -/
theorem perform_dl {m : HostMove} {s t : State} (h : perform m s = .next t) :
    t.dl = s.dl ∨ m = .rst ∨ ∃ d, m = .issue d ∧ t.dl = d := by
  rcases perform_next h with ⟨d, rfl, hissue⟩ | ⟨a, v, -, -, rfl⟩ | ⟨rfl, -, -⟩ | ⟨-, v, rfl | rfl⟩
  · rcases issue_next hissue with ⟨-, rfl⟩ | ⟨-, -, rfl⟩ | ⟨-, i, -, -, he⟩
    · exact .inl rfl
    · exact .inr (.inr ⟨d, rfl, rfl⟩)
    · exact .inr (.inr ⟨d, rfl, he.dl⟩)
  · exact .inl rfl
  · exact .inr (.inl rfl)
  all_goals exact .inl rfl

/-- R40: which moves can change a byte of SRC. -/
theorem perform_src {m : HostMove} {s t : State} (h : perform m s = .next t) (a : Nat) :
    Memory.read t.src a = Memory.read s.src a ∨ ∃ v, m = .writeSrc a v ∧ Memory.read t.src a = some v := by
  rcases perform_next h with ⟨d, rfl, hissue⟩ | ⟨b, v, rfl, -, rfl⟩ | ⟨rfl, -, rfl⟩ | ⟨-, v, rfl | rfl⟩
  · rcases issue_next hissue with ⟨-, rfl⟩ | ⟨-, -, rfl⟩ | ⟨-, i, -, -, he⟩
    · exact .inl rfl
    · exact .inl rfl
    · exact .inl (by rw [he.src]; rfl)
  · by_cases hab : a = b
    · subst hab; exact .inr ⟨v, rfl, Memory.read_write_same ..⟩
    · exact .inl (Memory.read_write_other _ v hab)
  all_goals exact .inl rfl

/-- Settles O19: register by register, the moves that can change it. -/
theorem eachRegisterHasOneWriter : Obligations.EachRegisterHasOneWriter := by
  intro s t ht
  obtain ⟨-, ⟨-, rfl⟩ | ⟨m, ms, hh, hperform⟩⟩ := step_next ht
  · exact ⟨fun h => absurd ⟨rfl, rfl, rfl, rfl, rfl⟩ h, fun h => absurd ⟨rfl, rfl⟩ h, fun h => absurd rfl h,
      fun _ h => absurd rfl h⟩
  · refine ⟨fun h => ?_, fun h => ?_, fun h => ?_, fun a h => ?_⟩
    · obtain rfl | ⟨d, r, rfl, hd⟩ := (perform_rect (s := dropMove ms s) hperform).resolve_left h
      · exact .inl ⟨ms, hh⟩
      · exact .inr ⟨d, ms, r, hh, hd⟩
    · obtain rfl | ⟨d, lines, fmt, rfl, hd⟩ := (perform_staging (s := dropMove ms s) hperform).resolve_left h
      · exact .inl ⟨ms, hh⟩
      · exact .inr ⟨d, ms, lines, fmt, hh, hd⟩
    · obtain rfl | ⟨d, rfl, hd⟩ := (perform_dl (s := dropMove ms s) hperform).resolve_left h
      · exact .inl ⟨ms, hh⟩
      · exact .inr ⟨d, ms, hh, hd⟩
    · obtain ⟨v, rfl, hread⟩ := (perform_src (s := dropMove ms s) hperform a).resolve_left h
      exact ⟨v, ms, hh, hread⟩

end Sys2Proof.Proofs
end

section
/-! The host's other moves: writes of SRC, reads, `rst` (spec 70_reset_and_hazards.md R160, R161, R165, R173; 10_state.md R22,
R38). -/

namespace Sys2Proof.Proofs

open Sys2Proof Sys2Proof.Machine Sys2Proof.Laws

/-- R173: a write outside SRC is refused. -/
theorem writeSrc_unmapped {a : Nat} {s : State} (h : s.cfg.stageBytes ≤ a) (v : Byte) :
    writeSrc a v s = .refused (.srcWriteUnmapped a) := if_pos h

/-- R165: a write that races with the operation in progress is refused. -/
theorem writeSrc_race {a : Nat} {s : State} (ha : a < s.cfg.stageBytes) (hb : s.busy = true) (hr : writeRaces s.dl a = true)
    (v : Byte) : writeSrc a v s = .refused (.srcWriteRace a) := by
  rw [writeSrc, if_neg (by omega), hb, hr]; rfl

/-- R173: a write of SRC that races with nothing is stored. -/
theorem writeSrc_stored {a : Nat} {s : State} (ha : a < s.cfg.stageBytes) (h : s.busy = false ∨ writeRaces s.dl a = false)
    (v : Byte) : writeSrc a v s = .next (storeSrc a v s) := by
  have hfree : ¬ (s.busy && writeRaces s.dl a) = true := by rcases h with h | h <;> simp [h]
  rw [writeSrc, if_neg (by omega), if_neg hfree]

/-- R41: after a store its address holds the byte, and every other address what it held. -/
theorem read_storeSrc (a : Nat) (v : Byte) (s : State) : Memory.read (storeSrc a v s).src a = some v ∧
    ∀ b, b ≠ a → Memory.read (storeSrc a v s).src b = Memory.read s.src b :=
  ⟨Memory.read_write_same .., fun _ hb => Memory.read_write_other _ v hb⟩

/-- Settles O57: an idle block races with nothing. -/
theorem hostWriteStoresOneByte : Obligations.HostWriteStoresOneByte := by
  intro s a v ms hv hidle hh ha
  obtain ⟨hsame, hother⟩ := read_storeSrc a v (dropMove ms s)
  exact ⟨_, (step_eq_perform hv hh).trans (writeSrc_stored (s := dropMove ms s) ha (.inl hidle) v), hsame, hother, hidle, rfl, rfl,
    ⟨rfl, rfl, rfl, rfl, rfl⟩, ⟨rfl, rfl⟩, rfl, rfl, rfl, rfl⟩

/-- R165: during a flush a write races exactly inside its source region. -/
theorem writeRaces_flush {d : Desc} {fmt : Fmt} {ctx : Bool} {r : Rect} {base : Nat}
    (h : decode d = .ok (flushOp fmt ctx r base)) (a : Nat) : writeRaces d a = decide (InSourceRegion fmt r base a) := by
  unfold writeRaces
  rw [h]
  cases fmt with
  | g8 => rfl
  | rgb565 => rfl

/-- R173: during any other operation every write races. -/
theorem writeRaces_other {d : Desc} (h : ∀ fmt ctx r base, decode d ≠ .ok (flushOp fmt ctx r base)) (a : Nat) :
    writeRaces d a = true := by
  unfold writeRaces
  split
  next ctx r base hd => exact absurd hd (h .g8 ctx r base)
  next ctx r base hd => exact absurd hd (h .rgb565 ctx r base)
  all_goals rfl

/-- Settles O60: the write races by the region of the flush, or because there is none. -/
theorem sourceIsStableDuringFlush : Obligations.SourceIsStableDuringFlush := by
  intro s a v ms hv hb hh ha
  rw [step_eq_perform hv hh]
  refine ⟨fun fmt ctx r base hd => ⟨fun hin => ?_, fun hout => ?_⟩, fun hother => ?_⟩
  · have hrace : writeRaces s.dl a = true := (writeRaces_flush hd a).trans (decide_eq_true hin)
    exact writeSrc_race (s := dropMove ms s) ha hb hrace v
  · have hfree : writeRaces s.dl a = false := (writeRaces_flush hd a).trans (decide_eq_false hout)
    obtain ⟨hsame, hrest⟩ := read_storeSrc a v (dropMove ms s)
    exact ⟨_, writeSrc_stored (s := dropMove ms s) ha (.inr hfree) v, hsame, hrest, hb, rfl⟩
  · exact writeSrc_race (s := dropMove ms s) ha hb (writeRaces_other hother a) v

/-- R173: what refuses a step of a legal configuration refused the next move. -/
theorem step_refused {s : State} {q : Refusal} (hv : s.cfg.Valid) (h : step s = .refused q) :
    ∃ m ms, s.host = m :: ms ∧ perform m (dropMove ms s) = .refused q := by
  rcases step_cases s with ⟨hinvalid, -⟩ | ⟨-, -, hwait⟩ | ⟨-, m, ms, hh, hperform⟩
  · exact absurd hv hinvalid
  · rw [hwait] at h; cases h
  · exact ⟨m, ms, hh, hperform.symm.trans h⟩

/-- R173: an available move is not refused. -/
theorem perform_available {m : HostMove} {s : State} (h : m.available s = true) (q : Refusal) : perform m s ≠ .refused q := by
  intro hq
  rcases perform_refused hq with ⟨a, v, rfl, ha, -⟩ | ⟨a, v, rfl, ha, hb, hr, -⟩ | ⟨rfl, hb, -⟩
  · simp [HostMove.available] at h; omega
  · simp [HostMove.available, hb, hr] at h
  · simp [HostMove.available, hb] at h

/-- Settles O59: the refusals of a step are those of its move, which R173 makes unavailable. -/
theorem unavailableMovesAreRefused : Obligations.UnavailableMovesAreRefused := by
  intro s hv
  refine ⟨fun a v ms ha hh => ?_, fun q hq => ?_, fun m ms hh havail q hq => ?_⟩
  · exact (step_eq_perform hv hh).trans (writeSrc_unmapped (s := dropMove ms s) ha v)
  · obtain ⟨m, ms, hh, hperform⟩ := step_refused hv hq
    rcases perform_refused hperform with ⟨a, v, rfl, ha, rfl⟩ | ⟨a, v, rfl, ha, hb, hr, rfl⟩ | ⟨rfl, hb, rfl⟩
    · exact .inl ⟨a, v, ms, hh, ha, rfl⟩
    · refine .inr (.inl ⟨a, v, ms, hh, ha, hb, rfl, fun fmt ctx r base hd => ?_⟩)
      exact of_decide_eq_true ((writeRaces_flush hd a).symm.trans hr)
    · exact .inr (.inr ⟨ms, hh, hb, rfl⟩)
  · rw [step_eq_perform hv hh] at hq
    have hdrop : m.available (dropMove ms s) = true := havail
    exact perform_available hdrop q hq

section
variable {s : State} {m : HostMove} {ms : List HostMove} {v : PortValue} {u : Nat → PortValue} (hv : s.cfg.Valid)
  (hh : s.host = m :: ms) (hread : perform m (dropMove ms s) = .next (answerRead (m.available s) v u (dropMove ms s)))
include hv hh hread

/-- R173: an available read gets the register's value. -/
theorem step_read_available (h : m.available s = true) :
    step s = .next { s with host := ms, replies := s.replies ++ [.value v] } := by
  rw [step_eq_perform hv hh, hread, h]; rfl

/-- R22, R38: a read that is not available is refused, and the port shows a free value. -/
theorem step_read_unavailable (h : m.available s = false) : step s =
    .next { s with host := ms, replies := s.replies ++ [.unavailable (u s.freeCtr)], freeCtr := s.freeCtr + 1 } := by
  rw [step_eq_perform hv hh, hread, h]; rfl

end

/-- R38: while busy, or before the first ROUND, the host's read of RX1..RY2 is refused. -/
theorem step_readRect_unavailable {s : State} {ms : List HostMove} (hv : s.cfg.Valid) (hh : s.host = .readRect :: ms)
    (h : s.busy = true ∨ s.roundDone = false) : ∃ a b c d n, step s =
      .next { s with host := ms, replies := s.replies ++ [.unavailable (.rect a b c d)], freeCtr := n } := by
  have hno : HostMove.readRect.available s = false := by rcases h with h | h <;> simp [HostMove.available, h]
  exact ⟨_, _, _, _, _, step_read_unavailable hv hh rfl hno⟩

/-- R173, fifth row: while idle and once a ROUND has completed, the host's read answers RX1..RY2. -/
theorem step_readRect_available {s : State} {ms : List HostMove} (hv : s.cfg.Valid) (hh : s.host = .readRect :: ms)
    (hidle : s.busy = false) (hdone : s.roundDone = true) :
    step s = .next { s with host := ms, replies := s.replies ++ [.value (.rect s.rx1 s.ry1 s.rx2 s.ry2)] } := by
  have hyes : HostMove.readRect.available s = true := by simp [HostMove.available, hidle, hdone]
  exact step_read_available hv hh rfl hyes

/-- Settles O58: each read is answered by its register where it is available, else by a free value. -/
theorem hostReadsAnswerRegisters : Obligations.HostReadsAnswerRegisters := by
  intro s ms hv
  refine ⟨fun hh => step_eq_perform hv hh, fun hidle => ?_, fun hb => ?_,
    fun hdone hh => step_readRect_unavailable hv hh (.inr hdone)⟩
  · have hyes : (!s.busy) = true := by rw [hidle]; rfl
    exact ⟨fun hh => step_read_available hv hh rfl hyes, fun hh => step_read_available hv hh rfl hyes,
      fun hh => step_read_available hv hh rfl hyes, fun hdone hh => step_readRect_available hv hh hidle hdone⟩
  · have hno : (!s.busy) = false := by rw [hb]; rfl
    exact ⟨fun hh => ⟨_, _, step_read_unavailable hv hh rfl hno⟩, fun hh => ⟨_, _, step_read_unavailable hv hh rfl hno⟩,
      fun hh => ⟨_, _, step_read_unavailable hv hh rfl hno⟩, fun hh => step_readRect_unavailable hv hh (.inl hb)⟩

/-- Settles O45: ROUND leaves the block idle and remembers that it completed. -/
theorem hostReadsRoundedRectangle : Obligations.HostReadsRoundedRectangle := by
  intro r s t ms hv h
  have hcfg := (exec_next h).cfg
  have hdone : t.roundDone = true := by cases h; rfl
  exact step_readRect_available (s := { t with host := .readRect :: ms }) (hcfg ▸ hv) rfl (exec_next h).idle hdone

/-- Settles O1: the reset state evaluated; no ROUND has completed, so the read of RX1..RY2 is refused. -/
theorem resetStateAsSpecified : Obligations.ResetStateAsSpecified := by
  refine ⟨⟨Config.ref, rfl, ref_valid⟩, fun cfg ms => ⟨rfl, rfl, rfl, rfl, fun _ => rfl, rfl, rfl, fun hv => ?_⟩⟩
  exact step_readRect_unavailable (s := { State.resetWith cfg with host := .readRect :: ms }) hv rfl (.inr rfl)

/-- Settles O2: an idle block is reset and then waits, a busy one refuses. -/
theorem blockResetOnlyWhileIdle : Obligations.BlockResetOnlyWhileIdle := by
  intro s ms hv hh
  refine ⟨fun hidle => ?_, fun hb => ?_⟩
  · have hstep : step s = .next (resetBlock (dropMove ms s)) :=
      (step_eq_perform hv hh).trans (if_neg (by rw [dropMove_busy, hidle]; exact Bool.false_ne_true))
    refine ⟨_, hstep, rfl, rfl, rfl, rfl, rfl, fun _ => rfl, rfl, rfl, rfl, fun k => ?_, fun hnil => ?_⟩
    · exact step_readRect_unavailable (s := { resetBlock (dropMove ms s) with host := .readRect :: k }) hv rfl (.inr rfl)
    · subst hnil; exact if_pos hv
  · exact (step_eq_perform hv hh).trans (if_pos hb)

end Sys2Proof.Proofs
end

section
/-! What the controller shows: the window a rectangle declares, the bytes it receives, and the pixels they are (spec
40_addressing.md R86, R87, 41_pixel_pipeline.md R113, R116). -/

namespace Sys2Proof.Proofs

open Sys2Proof Sys2Proof.Machine Sys2Proof.Laws

/-- A non-empty rectangle of the panel whose columns are whole quantum units (R82). -/
structure AlignedRect (cfg : Config) (ax1 cy1 ax2 cy2 : Nat) : Prop where
  left   : cfg.q ∣ ax1
  right  : cfg.q ∣ ax2 + 1
  cols   : ax1 ≤ ax2
  colsIn : ax2 ≤ 255
  rows   : cy1 ≤ cy2
  rowsIn : cy2 ≤ 63

/-- R82: the aligned rectangle of a flush that samples. -/
theorem alignedRect_flush {cfg : Config} (hv : cfg.Valid) {r : Rect} (hd : ¬ Degenerate r) :
    AlignedRect cfg (alo cfg (clampX r.x1)) (clampY r.y1) (ahi cfg (clampX r.x2)) (clampY r.y2) where
  left := q_dvd_alo ..
  right := q_dvd_ahi_add_one hv _
  cols := aligned_order hv hd
  colsIn := ahi_le_255 hv (clampX_le _)
  rows := (clamped_order hd).2.1
  rowsIn := clampY_le _

/-- R109, R110: the full panel is aligned. -/
theorem alignedRect_panel {cfg : Config} (hv : cfg.Valid) : AlignedRect cfg 0 0 (panelW - 1) (panelH - 1) where
  left := dvd_zero _
  right := by rcases hv.1 with hq | hq <;> rw [hq] <;> decide
  cols := Nat.zero_le _
  colsIn := by decide
  rows := Nat.zero_le _
  rowsIn := by decide

/-- The window of a rectangle, the optional RAM-write command and its packed rows (R85, R108). -/
def rectEvents (cfg : Config) (ax1 cy1 ax2 cy2 : Nat) (px : Nat → Nat → Nib) : List Event :=
  window cfg ax1 cy1 ax2 cy2 ++ optionalRamWrite cfg ++ (packedRows ax1 cy1 ax2 cy2 px).map .data

/-- R115: a flush that samples emits its aligned rectangle and acknowledges. -/
theorem liveEvents_eq_rectEvents (cfg : Config) (m : Memory) (fmt : Fmt) (r : Rect) (base : Nat) :
    liveEvents cfg m fmt r base = rectEvents cfg (alo cfg (clampX r.x1)) (clampY r.y1) (ahi cfg (clampX r.x2))
      (clampY r.y2) (shownPixel cfg m fmt r base) ++ [.ack] := rfl

/-- The controller's window after the events of a rectangle. -/
def rectWindow (cfg : Config) (ax1 cy1 ax2 cy2 : Nat) (px : Nat → Nat → Nib) : Window where
  colStart := colUnit cfg ax1
  colEnd   := colUnit cfg ax2
  rowStart := cy1
  rowEnd   := cy2
  received := (packedRows ax1 cy1 ax2 cy2 px).flatten

/-- R35, R85: the two address commands declare the window, which starts empty; the one between has received nothing. -/
theorem acceptAll_window {cfg : Config} (hv : cfg.Valid) {ax1 cy1 ax2 cy2 : Nat} (h : AlignedRect cfg ax1 cy1 ax2 cy2)
    (c : Controller) : ∃ between : Window, between.received = [] ∧ c.acceptAll cfg (window cfg ax1 cy1 ax2 cy2) =
      (c.declare between).declare { colStart := colUnit cfg ax1, colEnd := colUnit cfg ax2, rowStart := cy1, rowEnd := cy2,
                                    received := [] } := by
  obtain ⟨-, -, -, hne, -⟩ := (valid_iff cfg).mp hv
  have hcs : (BitVec.ofNat 8 (colUnit cfg ax1)).toNat = colUnit cfg ax1 :=
    toNat_ofNat_byte (colUnit_le_255 hv (h.cols.trans h.colsIn))
  have hce : (BitVec.ofNat 8 (colUnit cfg ax2)).toNat = colUnit cfg ax2 := toNat_ofNat_byte (colUnit_le_255 hv h.colsIn)
  have hys := toNat_rowUnit_byte (h.rows.trans h.rowsIn)
  have hye := toNat_rowUnit_byte h.rowsIn
  refine ⟨{ c.window with colStart := colUnit cfg ax1, colEnd := colUnit cfg ax2, received := [] }, rfl, ?_⟩
  simp only [window, Controller.acceptAll, List.foldl_cons, List.foldl_nil, Controller.accept, if_true, hne.symm, if_false, hcs,
    hce, hys, hye]
  rfl

/-- R108: the RAM-write command changes no window. -/
theorem acceptAll_optionalRamWrite (cfg : Config) (c : Controller) : c.acceptAll cfg (optionalRamWrite cfg) = c := by
  unfold optionalRamWrite
  cases cfg.opcRamWr with
  | none => rfl
  | some op => rfl

/-- R35: data fill the declared window on. -/
theorem acceptAll_rows (cfg : Config) (rows : List (List Byte)) (c : Controller) : c.acceptAll cfg (rows.map .data) =
    { c with window := { c.window with received := c.window.received ++ rows.flatten } } := by
  induction rows generalizing c with
  | nil => simp [Controller.acceptAll]
  | cons row rows ih =>
    have hcons : c.acceptAll cfg ((row :: rows).map .data) = (c.accept cfg (.data row)).acceptAll cfg (rows.map .data) := rfl
    rw [hcons, ih]
    simp [Controller.accept, List.append_assoc]

/-- R116: after the events of an aligned rectangle the controller's window is the rectangle's, over what it held before. -/
theorem acceptAll_rectEvents {cfg : Config} (hv : cfg.Valid) {ax1 cy1 ax2 cy2 : Nat} (h : AlignedRect cfg ax1 cy1 ax2 cy2)
    (px : Nat → Nat → Nib) (c : Controller) : ∃ between : Window, between.received = [] ∧
      c.acceptAll cfg (rectEvents cfg ax1 cy1 ax2 cy2 px) =
        (c.declare between).declare (rectWindow cfg ax1 cy1 ax2 cy2 px) := by
  obtain ⟨between, hempty, hwindow⟩ := acceptAll_window hv h c
  refine ⟨between, hempty, ?_⟩
  rw [rectEvents, controller_acceptAll_append, controller_acceptAll_append, hwindow, acceptAll_optionalRamWrite,
    acceptAll_rows]
  rfl

theorem acceptAll_ack (cfg : Config) (c : Controller) (es : List Event) :
    c.acceptAll cfg (es ++ [.ack]) = c.acceptAll cfg es := by
  rw [controller_acceptAll_append]; rfl

section
variable {cfg : Config} {ax1 cy1 ax2 cy2 : Nat} (h : AlignedRect cfg ax1 cy1 ax2 cy2) (px : Nat → Nat → Nib)
include h

/-- R86: the declared window begins at the first column. -/
theorem rectWindow_x0 : (rectWindow cfg ax1 cy1 ax2 cy2 px).x0 cfg = ax1 := by
  rw [Window.x0, rectWindow, colUnit_sub_colOff, Nat.div_mul_cancel h.left]

/-- R86: the declared window is as wide as the rectangle. -/
theorem rectWindow_width (hv : cfg.Valid) : (rectWindow cfg ax1 cy1 ax2 cy2 px).width cfg = ax2 + 1 - ax1 := by
  have hl := h.left
  have hr := h.right
  simp only [Window.width, rectWindow, colUnit]
  rcases hv.1 with hq | hq <;> rw [hq] at hl hr ⊢ <;> omega

/-- R87: a row of bytes is half the declared width. -/
theorem rectWindow_row_length (hv : cfg.Valid) : (ax2 - ax1 + 1) / 2 = (rectWindow cfg ax1 cy1 ax2 cy2 px).width cfg / 2 := by
  have hcols := h.cols
  rw [rectWindow_width h px hv]; omega

end

/-- The bytes of rows that are all alike long. -/
theorem length_flatten_uniform {rows : List (List Byte)} {n : Nat} (h : ∀ row ∈ rows, row.length = n) :
    rows.flatten.length = n * rows.length := by
  induction rows with
  | nil => rfl
  | cons row rows ih =>
    rw [List.flatten_cons, List.length_append, h row List.mem_cons_self, ih fun r hr => h r (List.mem_cons_of_mem _ hr),
      List.length_cons, Nat.mul_add, Nat.mul_one, Nat.add_comm]

/-- A byte of rows that are all alike long, by its row and its place in the row. -/
theorem getElem?_flatten_uniform {rows : List (List Byte)} {n i j : Nat} (h : ∀ row ∈ rows, row.length = n) (hi : i < n) :
    rows.flatten[j * n + i]? = rows[j]?.bind fun row => row[i]? := by
  induction rows generalizing j with
  | nil => rfl
  | cons row rows ih =>
    have hrow : row.length = n := h row List.mem_cons_self
    rw [List.flatten_cons]
    cases j with
    | zero => rw [Nat.zero_mul, Nat.zero_add, List.getElem?_append_left (by omega)]; rfl
    | succ j =>
      have hindex : (j + 1) * n + i - row.length = j * n + i := by rw [Nat.add_mul, hrow]; omega
      rw [List.getElem?_append_right (by rw [Nat.add_mul]; omega), hindex, ih fun r hr => h r (List.mem_cons_of_mem _ hr)]
      rfl

theorem length_of_mem_packedRows {ax1 cy1 ax2 cy2 : Nat} {px : Nat → Nat → Nib} {row : List Byte}
    (h : row ∈ packedRows ax1 cy1 ax2 cy2 px) : row.length = (ax2 - ax1 + 1) / 2 := by
  obtain ⟨j, hj⟩ := List.mem_iff_getElem?.mp h
  obtain ⟨-, rfl⟩ := row_of_packedRows hj
  exact packedRow_length ..

/-- R113: the declared window receives exactly the bytes it holds. -/
theorem rectWindow_received_length {cfg : Config} {ax1 cy1 ax2 cy2 : Nat} (hv : cfg.Valid)
    (h : AlignedRect cfg ax1 cy1 ax2 cy2) (px : Nat → Nat → Nib) :
    (rectWindow cfg ax1 cy1 ax2 cy2 px).received.length = (rectWindow cfg ax1 cy1 ax2 cy2 px).expected cfg := by
  have hrows := h.rows
  have hheight : cy2 - cy1 + 1 = cy2 + 1 - cy1 := by omega
  rw [Window.expected, ← rectWindow_row_length h px hv, rectWindow, length_flatten_uniform fun _ => length_of_mem_packedRows,
    packedRows_length, hheight]

theorem payloads_rectEvents (cfg : Config) (ax1 cy1 ax2 cy2 : Nat) (px : Nat → Nat → Nib) :
    payloads (rectEvents cfg ax1 cy1 ax2 cy2 px) = packedRows ax1 cy1 ax2 cy2 px := by
  have hwrite : payloads (optionalRamWrite cfg) = [] := by
    unfold optionalRamWrite
    cases cfg.opcRamWr with
    | none => rfl
    | some op => rfl
  rw [rectEvents, payloads_append, payloads_append, hwrite, payloads_map_data]
  rfl

/-- R46: the data bytes of a trace are its payloads, joined. -/
theorem dataBytes_eq_flatten (T : List Event) : dataBytes T = (payloads T).flatten := by
  induction T with
  | nil => rfl
  | cons e T ih =>
    have hcons : dataBytes (e :: T) = dataBytes [e] ++ dataBytes T := by simp [dataBytes, bus]
    rw [hcons, ih]
    cases e with
    | cmd op ps => rfl
    | data bs => simp [dataBytes, bus, busEvent, payload, payloads]
    | ack => rfl

/-- R113: the payloads, the bytes and the declared window of events agree. -/
def CountsMatch (cfg : Config) (es : List Event) (height width : Nat) : Prop :=
  (payloads es).length = height ∧ (∀ p, p ∈ payloads es → p.length = width) ∧ (dataBytes es).length = width * height ∧
    ∀ c : Controller, (c.acceptAll cfg es).window.received.length = (c.acceptAll cfg es).window.expected cfg

/-- R113: the events of an aligned rectangle. -/
theorem countsMatch_rectEvents {cfg : Config} {ax1 cy1 ax2 cy2 : Nat} (hv : cfg.Valid)
    (h : AlignedRect cfg ax1 cy1 ax2 cy2) (px : Nat → Nat → Nib) :
    CountsMatch cfg (rectEvents cfg ax1 cy1 ax2 cy2 px) (cy2 - cy1 + 1) ((ax2 - ax1 + 1) / 2) := by
  refine ⟨?_, ?_, ?_, fun c => ?_⟩
  · rw [payloads_rectEvents, packedRows_length]
  · rw [payloads_rectEvents]; exact fun _ => length_of_mem_packedRows
  · rw [dataBytes_eq_flatten, payloads_rectEvents, length_flatten_uniform fun _ => length_of_mem_packedRows,
      packedRows_length]
  · obtain ⟨between, -, hc⟩ := acceptAll_rectEvents hv h px c
    rw [hc]; exact rectWindow_received_length hv h px

/-- R114: an `Ack` carries no data and changes no window. -/
theorem countsMatch_ack {cfg : Config} {es : List Event} {height width : Nat} (h : CountsMatch cfg es height width) :
    CountsMatch cfg (es ++ [.ack]) height width := by
  have hpayloads : payloads (es ++ [.ack]) = payloads es := by rw [payloads_append]; exact List.append_nil _
  simp only [CountsMatch, dataBytes_eq_flatten, hpayloads, acceptAll_ack] at h ⊢
  exact h

/-- Settles O51: a flush that completes, FILL and TPAT each emit an aligned rectangle. -/
theorem dataCountsMatchDeclaredWindow : Obligations.DataCountsMatchDeclaredWindow := by
  intro s t hv
  refine ⟨fun fmt r base hd ht => ?_, fun i hi ht => ?_⟩
  · obtain ⟨-, rfl⟩ := exec_flush_next hv hd ht
    have hcounts := countsMatch_ack (countsMatch_rectEvents hv (alignedRect_flush hv hd)
      (shownPixel s.cfg s.src fmt r base))
    have hwidth : (ahi s.cfg (clampX r.x2) - alo s.cfg (clampX r.x1) + 1) / 2 =
        (ahi s.cfg (clampX r.x2) + 1 - alo s.cfg (clampX r.x1)) / 2 := by
      have horder := aligned_order hv hd
      omega
    rw [hwidth] at hcounts
    exact ⟨_, rfl, hcounts⟩
  · have hcounts (px : Nat → Nat → Nib) : CountsMatch s.cfg (fullPanel s.cfg px) 64 128 := by
      rw [fullPanel_eq]; exact countsMatch_rectEvents hv (alignedRect_panel hv) px
    rcases hi with rfl | ⟨v, rfl⟩ <;> cases ht <;> exact ⟨_, rfl, hcounts _⟩

/-- R106: the high nibble of a packed byte is the left pixel. -/
theorem pack_high (a b : Nib) : (pack a b).extractLsb' 4 4 = a := congrArg Prod.fst (unpack_pack a b)

/-- R106: the low nibble of a packed byte is the right pixel. -/
theorem pack_low (a b : Nib) : (pack a b).extractLsb' 0 4 = b := congrArg Prod.snd (unpack_pack a b)

/-- R116: a window shows at a position the nibble of the byte its data put there. -/
theorem window_pixel_of_byte {cfg : Config} {w : Window} {x y : Nat} {b : Byte}
    (hin : w.x0 cfg ≤ x ∧ x < w.x0 cfg + w.width cfg ∧ w.rowStart ≤ y ∧ y ≤ w.rowEnd)
    (hb : w.received[(y - w.rowStart) * (w.width cfg / 2) + (x - w.x0 cfg) / 2]? = some b) :
    w.pixel cfg x y = some (if (x - w.x0 cfg) % 2 = 0 then b.extractLsb' 4 4 else b.extractLsb' 0 4) := by
  unfold Window.pixel
  rw [if_pos hin, hb]
  exact (apply_ite some ..).symm

/-- R116: the nibble at a column is that of the column's pixel. -/
theorem pack_nibble_of_column (px : Nat → Nat → Nib) {ax1 x y : Nat} (hx : ax1 ≤ x) :
    (if (x - ax1) % 2 = 0
      then (pack (px (ax1 + 2 * ((x - ax1) / 2)) y) (px (ax1 + 2 * ((x - ax1) / 2) + 1) y)).extractLsb' 4 4
      else (pack (px (ax1 + 2 * ((x - ax1) / 2)) y) (px (ax1 + 2 * ((x - ax1) / 2) + 1) y)).extractLsb' 0 4) = px x y := by
  split
  next heven => rw [pack_high, show ax1 + 2 * ((x - ax1) / 2) = x by omega]
  next hodd => rw [pack_low, show ax1 + 2 * ((x - ax1) / 2) + 1 = x by omega]

/-- R108: the byte of a position in the data of an aligned rectangle. -/
theorem rectWindow_byte {cfg : Config} {ax1 cy1 ax2 cy2 : Nat} (hv : cfg.Valid) (h : AlignedRect cfg ax1 cy1 ax2 cy2)
    (px : Nat → Nat → Nib) {x y : Nat} (hx1 : ax1 ≤ x) (hx2 : x ≤ ax2) (hy1 : cy1 ≤ y) (hy2 : y ≤ cy2) :
    (rectWindow cfg ax1 cy1 ax2 cy2 px).received[(y - cy1) * ((ax2 - ax1 + 1) / 2) + (x - ax1) / 2]? =
      some (pack (px (ax1 + 2 * ((x - ax1) / 2)) y) (px (ax1 + 2 * ((x - ax1) / 2) + 1) y)) := by
  have hleft : 2 ∣ ax1 := (two_dvd_q hv).trans h.left
  have hright : 2 ∣ ax2 + 1 := (two_dvd_q hv).trans h.right
  have hi : (x - ax1) / 2 < (ax2 - ax1 + 1) / 2 := by omega
  rw [rectWindow, getElem?_flatten_uniform (fun _ => length_of_mem_packedRows) hi, packedRows_getElem? (by omega),
    Option.bind_some, Nat.add_sub_cancel' hy1, packedRow_getElem? hi]

/-- R116: inside the rectangle its window shows the pixel that was packed there. -/
theorem rectWindow_pixel_inside {cfg : Config} {ax1 cy1 ax2 cy2 : Nat} (hv : cfg.Valid)
    (h : AlignedRect cfg ax1 cy1 ax2 cy2) (px : Nat → Nat → Nib) {x y : Nat} (hx1 : ax1 ≤ x) (hx2 : x ≤ ax2)
    (hy1 : cy1 ≤ y) (hy2 : y ≤ cy2) : (rectWindow cfg ax1 cy1 ax2 cy2 px).pixel cfg x y = some (px x y) := by
  have hpixel := window_pixel_of_byte (cfg := cfg) (w := rectWindow cfg ax1 cy1 ax2 cy2 px) (x := x) (y := y)
    (b := pack (px (ax1 + 2 * ((x - ax1) / 2)) y) (px (ax1 + 2 * ((x - ax1) / 2) + 1) y))
  rw [rectWindow_x0 h px, ← rectWindow_row_length h px hv, rectWindow_width h px hv, pack_nibble_of_column px hx1] at hpixel
  exact hpixel ⟨hx1, by omega, hy1, hy2⟩ (rectWindow_byte hv h px hx1 hx2 hy1 hy2)

/-- R116: outside the rectangle its window shows nothing. -/
theorem rectWindow_pixel_outside {cfg : Config} {ax1 cy1 ax2 cy2 : Nat} (hv : cfg.Valid)
    (h : AlignedRect cfg ax1 cy1 ax2 cy2) (px : Nat → Nat → Nib) {x y : Nat}
    (hout : ¬ (ax1 ≤ x ∧ x ≤ ax2 ∧ cy1 ≤ y ∧ y ≤ cy2)) : (rectWindow cfg ax1 cy1 ax2 cy2 px).pixel cfg x y = none := by
  have hcols := h.cols
  refine if_neg fun hin => hout ?_
  rw [rectWindow_x0 h px, rectWindow_width h px hv] at hin
  obtain ⟨hx1, hx2, hy1, hy2⟩ := hin
  exact ⟨hx1, by omega, hy1, hy2⟩

/-- R116: the RAM shows the latest window where its data reach. -/
theorem pixel_declare_some {cfg : Config} {c : Controller} {w : Window} {x y : Nat} {n : Nib}
    (h : w.pixel cfg x y = some n) : (c.declare w).pixel cfg x y = some n := by
  simp only [Controller.pixel, Controller.declare, List.findSome?_cons, h]

/-- R116: the RAM keeps what it held where the data of the latest window do not reach. -/
theorem pixel_declare_none {cfg : Config} {c : Controller} {w : Window} {x y : Nat} (h : w.pixel cfg x y = none) :
    (c.declare w).pixel cfg x y = c.pixel cfg x y := by
  simp only [Controller.pixel, Controller.declare]
  rw [List.findSome?_cons, h]

/-- R116: after the events of an aligned rectangle the RAM shows its pixels on it, and elsewhere what it held. -/
theorem pixel_rectEvents {cfg : Config} {ax1 cy1 ax2 cy2 : Nat} (hv : cfg.Valid) (h : AlignedRect cfg ax1 cy1 ax2 cy2)
    (px : Nat → Nat → Nib) (c : Controller) (x y : Nat) :
    (ax1 ≤ x ∧ x ≤ ax2 ∧ cy1 ≤ y ∧ y ≤ cy2 →
      (c.acceptAll cfg (rectEvents cfg ax1 cy1 ax2 cy2 px)).pixel cfg x y = some (px x y)) ∧
    (¬ (ax1 ≤ x ∧ x ≤ ax2 ∧ cy1 ≤ y ∧ y ≤ cy2) →
      (c.acceptAll cfg (rectEvents cfg ax1 cy1 ax2 cy2 px)).pixel cfg x y = c.pixel cfg x y) := by
  obtain ⟨between, hempty, hc⟩ := acceptAll_rectEvents hv h px c
  rw [hc]
  refine ⟨fun ⟨hx1, hx2, hy1, hy2⟩ => ?_, fun hout => ?_⟩
  · exact pixel_declare_some (rectWindow_pixel_inside hv h px hx1 hx2 hy1 hy2)
  · rw [pixel_declare_none (rectWindow_pixel_outside hv h px hout), Controller.pixel_declare cfg c hempty]

/-- Settles O52: a flush that completes emits its aligned rectangle of samples. -/
theorem panelShowsSamples : Obligations.PanelShowsSamples := by
  intro fmt r base s t c hv hd ht
  obtain ⟨hready, rfl⟩ := exec_flush_next hv hd ht
  refine ⟨liveEvents s.cfg s.src fmt r base, rfl, fun x y => ?_⟩
  obtain ⟨hinside, houtside⟩ := pixel_rectEvents hv (alignedRect_flush hv hd) (shownPixel s.cfg s.src fmt r base) c x y
  rw [liveEvents_eq_rectEvents, acceptAll_ack]
  refine ⟨fun ⟨hx1, hx2, hy1, hy2⟩ => ⟨_, hinside ⟨hx1, hx2, hy1, hy2⟩, ?_⟩, houtside⟩
  exact sampleIs_shownPixel hready x hy1 hy2

end Sys2Proof.Proofs
end
